-- ==== Sys2Proof/Word.lean ====
section
/-! DEFINITION. The words of the 614: the octet in which every datum on the line and at the host port moves
(00_scope, Conventions), and the sixteen-bit word of the CRC register, the divisor and the counters. -/

namespace Sys2Proof

/-- Eight bits, bit 0 the least significant (00_scope, Conventions: Octet, Bit numbering). -/
abbrev Octet := BitVec 8

/-- Sixteen bits: the CRC register (R118), the divisor (R161), the delivered and received counts (R6). -/
abbrev Word16 := BitVec 16

/-- Three bits: the port address on A2..A0 (R166). -/
abbrev PortAddress := BitVec 3

/-- The octet of a count: the count's low eight bits. -/
def octetOfNat (n : Nat) : Octet := BitVec.ofNat 8 n

/-- The high octet of a sixteen-bit word. -/
def highOctet (w : Word16) : Octet := w.extractLsb' 8 8

/-- The low octet of a sixteen-bit word. -/
def lowOctet (w : Word16) : Octet := w.extractLsb' 0 8

end Sys2Proof
end

