-- ==== Sys2Proof/Syntax.lean ====
section
/-! DEFINITION. The commands of the 614: one constructor for each row of spec/opcode_table.json, that is, for each event
whose effect the specification gives whole (00_scope, Conventions: Events). The completion of a command carries no
operand, because its arguments were copied at acceptance (R169). -/

namespace Sys2Proof

/-- An event of the 614. -/
inductive Instr where
  /-- ACCEPTANCE. A COMMAND write of `code`: accepted while BUSY is clear (R169), refused while it is set (R170). -/
  | acceptance (code : Octet)
  /-- ARGUMENT_WRITE. An ARGUMENT write of `octet` (R168). -/
  | argumentWrite (octet : Octet)
  /-- RESULT_READ. A RESULT read (R173). -/
  | resultRead
  /-- UNKNOWN_COMMAND. The completion of an accepted code that names no command (R171). -/
  | unknownCommand
  /-- ADMIT_STATION. The completion of ADMIT STATION, code 0x10 (R12). -/
  | admitStation
  /-- FIND_STATION. The completion of FIND STATION, code 0x11 (R10). -/
  | findStation
  /-- READ_STATION. The completion of READ STATION, code 0x12 (R13). -/
  | readStation
  /-- MODIFY_STATION_ADDRESS. The completion of MODIFY STATION, code 0x13, field 1 (R14, R15). -/
  | modifyStationAddress
  /-- MODIFY_STATION_GROUP. The completion of MODIFY STATION, code 0x13, field 2 (R14, R16). -/
  | modifyStationGroup
  /-- MODIFY_STATION_QUIET_LIMIT. The completion of MODIFY STATION, code 0x13, field 3 (R14, R17). -/
  | modifyStationQuietLimit
  /-- MODIFY_STATION_CLEAR_COUNTERS. The completion of MODIFY STATION, code 0x13, field 4 (R14, R18). -/
  | modifyStationClearCounters
  /-- HOLD_STATION. The completion of HOLD STATION, code 0x14 (R19). -/
  | holdStation
  /-- RELEASE_STATION. The completion of RELEASE STATION, code 0x15 (R20). -/
  | releaseStation
  /-- RETIRE_STATION. The completion of RETIRE STATION, code 0x16 (R21, R31). -/
  | retireStation
  /-- SYNC_STATION. The completion of SYNC STATION, code 0x17 (R76). -/
  | syncStation
  /-- TABLE_RESET. The completion of TABLE RESET, code 0x1F (R26). -/
  | tableReset
  /-- RING_INSERT. The completion of RING INSERT, code 0x20 (R29). -/
  | ringInsert
  /-- RING_REMOVE. The completion of RING REMOVE, code 0x21 (R30). -/
  | ringRemove
  /-- RING_READ. The completion of RING READ, code 0x22 (R32). -/
  | ringRead
  /-- RING_STATUS. The completion of RING STATUS, code 0x23 (R32). -/
  | ringStatus
  /-- POLL_NOW. The completion of POLL NOW, code 0x24 (R36). -/
  | pollNow
  /-- QUEUE_TEXT. The completion of QUEUE TEXT, code 0x30 (R82). -/
  | queueText
  /-- QUEUE_GROUP_TEXT. The completion of QUEUE GROUP TEXT, code 0x31 (R84). -/
  | queueGroupText
  /-- CANCEL_TEXT. The completion of CANCEL TEXT, code 0x32 (R86). -/
  | cancelText
  /-- CLEAR_STAGING. The completion of CLEAR STAGING, code 0x33 (R88). -/
  | clearStaging
  /-- READ_INBOUND. The completion of READ INBOUND, code 0x34 (R92). -/
  | readInbound
  /-- RELEASE_INBOUND. The completion of RELEASE INBOUND, code 0x35 (R93). -/
  | releaseInbound
  /-- BUFFER_STATUS. The completion of BUFFER STATUS, code 0x36 (R89). -/
  | bufferStatus
  /-- NEXT_ATTENTION. The completion of NEXT ATTENTION, code 0x40 (R100, R101). -/
  | nextAttention
  /-- START_LINE. The completion of START LINE, code 0x50 (R146). -/
  | startLine
  /-- STOP_LINE. The completion of STOP LINE, code 0x51 (R147). -/
  | stopLine
  /-- ABORT_LINE. The completion of ABORT LINE, code 0x52 (R149). -/
  | abortLine
  /-- LINE_TEST. The event of the engine, after the acceptance of LINE TEST (code 0x53), in which it is checked and begun (R150). -/
  | lineTest
  /-- STAGING_TEXT_WRITE. A STAGING TEXT write of `octet` (R77). -/
  | stagingTextWrite (octet : Octet)
  /-- INBOUND_TEXT_READ. An INBOUND TEXT read (R91). -/
  | inboundTextRead
  /-- CAUSE_CLEAR_WRITE. A CAUSE CLEAR write of `octet` (R106). -/
  | causeClearWrite (octet : Octet)
  /-- MASK_WRITE. A MASK write of `octet` (R108). -/
  | maskWrite (octet : Octet)
  /-- PARAMETER_INDEX_WRITE. A PARAMETER INDEX write of `octet` (R155). -/
  | parameterIndexWrite (octet : Octet)
  /-- PARAMETER_DATA_READ. A PARAMETER DATA read (R156). -/
  | parameterDataRead
  /-- PARAMETER_DATA_WRITE. A PARAMETER DATA write of `octet` (R157). -/
  | parameterDataWrite (octet : Octet)
  /-- LINE_STATUS_READ. A LINE STATUS read (R152). -/
  | lineStatusRead
  /-- LINE_STATUS_PORT_WRITE. A write of `octet` to port 7, which is ignored (R166). -/
  | lineStatusPortWrite (octet : Octet)
  /-- MASTER_RESET. The fall of RST# (R176). -/
  | masterReset
  /-- RST_RELEASED. The release of RST# (R177). -/
  | rstReleased
  /-- CTS_CHANGE. CTS takes the level `active` (R133). -/
  | ctsChange (active : Bool)
  /-- DCD_CHANGE. DCD takes the level `active` (R133). -/
  | dcdChange (active : Bool)
  /-- CTS_LOST. The end of the octet in progress after a CTS loss (R139). -/
  | ctsLost
  /-- SELECTION. A selection of the Poll Scheduler (R42). -/
  | selection
  /-- LAST_CRC_OCTET_SENT. The last line octet of the CRC has gone out (R120). -/
  | lastCrcOctetSent
  /-- LAST_PAD_OCTET_ENDED. The last bit of the last pad octet has gone out (R120, R138). -/
  | lastPadOctetEnded
  /-- LEAD_DETECTED. The end of the second LEAD octet on one alignment (R124); the octet received is the LEAD value. -/
  | leadDetected
  /-- BLOCK_JUDGED. The whole octet `octet` is received and judges the block (R127). -/
  | blockJudged (octet : Octet)
  /-- GAP_TIMER_EXPIRY. The gap timer expires (R135). -/
  | gapTimerExpiry
  /-- CTS_TIMER_EXPIRY. The CTS timer expires (R137). -/
  | ctsTimerExpiry
  /-- REPLY_TIMER_EXPIRY. The reply timer expires (R140, R151). -/
  | replyTimerExpiry
  /-- SETTLE_TIMER_EXPIRY. The settle timer expires (R142). -/
  | settleTimerExpiry
  /-- PROBE_TIMER_EXPIRY. The probe timer expires (R38). -/
  | probeTimerExpiry
  /-- OCTET_ALIGNMENT_TAKEN. The receiver takes the bits `bits`, the first received first, and the last of them completes the first match of its window with the LEAD value (R123). -/
  | octetAlignmentTaken (bits : List Bool)
  /-- ALIGNMENT_GIVEN_UP. The first whole octet after the first LEAD is `octet`, which is not LEAD (R123). -/
  | alignmentGivenUp (octet : Octet)
  /-- BODY_OCTET_DECODED. The whole octet `octet` is received in BODY and does not judge the block (R125). -/
  | bodyOctetDecoded (octet : Octet)
deriving DecidableEq, Repr

end Sys2Proof
end

