-- ==== Sys2Proof/Decode.lean ====
section
/-! DEFINITION. How a command reaches the 614: the words of the opcode table, of which there are none, and the bus cycles
of the host port (R166). -/

namespace Sys2Proof

/-- The command that a word of the opcode table spells. spec/opcode_table.json gives no row any bits, so no word
spells one. -/
def decodeTableWord (_nbits _w : Nat) : Option Instr := none

/-- The event that a write of `d` to port `a` is (R166, table of ports). -/
def portWrite (a : PortAddress) (d : Octet) : Instr :=
  if a = 0 then .acceptance d
  else if a = 1 then .argumentWrite d
  else if a = 2 then .stagingTextWrite d
  else if a = 3 then .causeClearWrite d
  else if a = 4 then .maskWrite d
  else if a = 5 then .parameterIndexWrite d
  else if a = 6 then .parameterDataWrite d
  else .lineStatusPortWrite d

/-- The event that a read of port `a` is, where the read changes something (R166): reads of STATUS, CAUSE, MASK and
PARAMETER INDEX change nothing and are no row of the table. -/
def portReadEvent (a : PortAddress) : Option Instr :=
  if a = 1 then some .resultRead
  else if a = 2 then some .inboundTextRead
  else if a = 6 then some .parameterDataRead
  else if a = 7 then some .lineStatusRead
  else none

/-- The event that a bus cycle is. `ce`, `rd` and `wr` say whether CE#, RD# and WR# are asserted. An access with CE#
released reaches no port, one with both strobes asserted is ignored, and one with neither is no access (R166). -/
def portAccess (ce rd wr : Bool) (a : PortAddress) (d : Octet) : Option Instr :=
  match ce, rd, wr with
  | true, true, false => portReadEvent a
  | true, false, true => some (portWrite a d)
  | _, _, _ => none

end Sys2Proof
end

