-- ==== Sys2Proof/Config.lean ====
section
/-! DEFINITION. What the specification fixes once for every 614: the sizes of its tables, lists and buffers, and the
default of every parameter. The specification leaves no value open, so this file holds no free value. -/

namespace Sys2Proof.Config

/-- Records of the Station Table, slots 0..39 (R1). -/
abbrev slots : Nat := 40
/-- Outbound buffers 0..7 (R79). -/
abbrev outboundBuffers : Nat := 8
/-- Entries the Poll Ring holds at most (R27). -/
abbrev ringCapacity : Nat := 64
/-- Ring entries a slot may have at most (R27). -/
abbrev ringEntriesPerSlot : Nat := 4
/-- Slots the urgent list holds at most (R34). -/
abbrev urgentCapacity : Nat := 4
/-- Octets the staging buffer holds at most (R77). -/
abbrev stagingCapacity : Nat := 128
/-- Octets a text holds at most (R79, R115). -/
abbrev textCapacity : Nat := 128
/-- Inbound buffers of the inbound pair (R90). -/
abbrev inboundCapacity : Nat := 2
/-- Octets the argument block holds (R168). -/
abbrev argumentCapacity : Nat := 8
/-- The value at which a miss count saturates (R5). -/
abbrev missCountMax : Nat := 15
/-- Octet times in one unit of the Probe Interval (R38). -/
abbrev probeUnit : Nat := 64
/-- The least divisor of the internal clock (R161). -/
abbrev divisorMin : Nat := 12

/-- Default of parameter 0x00, the LEAD value (R154). -/
def defaultLead : Octet := 0x96
/-- Default of parameter 0x01, the PREFIX value (R154). -/
def defaultPrefix : Octet := 0x9A
/-- Default of parameter 0x02, the Lead Count (R154). -/
def defaultLeadCount : Octet := 2
/-- Default of parameter 0x03, the Pad Count (R154). -/
def defaultPadCount : Octet := 1
/-- Default divisor, high octet 0x04 and low octet 0x00 (R154, R161). -/
def defaultDivisor : Word16 := 1024
/-- Default of parameter 0x07, the Reply Timeout (R154). -/
def defaultReplyTimeout : Octet := 24
/-- Default of parameter 0x08, the CTS Timeout (R154). -/
def defaultCtsTimeout : Octet := 8
/-- Default of parameter 0x09, the Turnaround Gap (R154). -/
def defaultTurnaroundGap : Octet := 2
/-- Default of parameter 0x0A, the Probe Interval (R154). -/
def defaultProbeInterval : Octet := 32
/-- Default of parameter 0x0B, the Suspect Threshold (R154). -/
def defaultSuspectThreshold : Octet := 3
/-- Default of parameter 0x0C, the Lost Threshold (R154). -/
def defaultLostThreshold : Octet := 8
/-- Default of parameter 0x0D, the Retry Limit (R154). -/
def defaultRetryLimit : Octet := 3
/-- Default of parameter 0x0E, the Group Repeat (R154). -/
def defaultGroupRepeat : Octet := 2

end Sys2Proof.Config
end

