-- ==== Sys2Proof/Machine/State.lean ====
section
/-! DEFINITION. The state of the 614 as plain data, block by block (00_scope, Block overview), its value right after
master reset (R177), and the reasons for which a step could stop. -/

namespace Sys2Proof.Machine

/-! ### Station Table (chapter 1) -/

/-- The number of a station record (R1). -/
abbrev Slot := Fin Config.slots

/-- The number of an outbound buffer (R79). -/
abbrev BufferNo := Fin Config.outboundBuffers

/-- The four standings of a station in service (1.2). -/
inductive Standing where
  | staged | active | suspect | lost
deriving DecidableEq, Repr

/-- The state field of a record. HELD carries held-from, which is present exactly while the state is HELD (R8). -/
inductive Lifecycle where
  | free
  | inService (standing : Standing)
  | held (heldFrom : Standing)
  | retiring
deriving DecidableEq, Repr

/-- The ten attention reasons (R95). -/
inductive Reason where
  | admitted | suspect | lost | recovered | delivered | failed | status | quiet | protocol | retired
deriving DecidableEq, Repr

/-- A reason set: one bit for each reason, in the bit positions of R95. -/
abbrev ReasonSet := BitVec 10

/-- The cause of the most recent FAILED reason (R96). -/
inductive FailureCause where
  | none | retries | lost | cancelled
deriving DecidableEq, Repr

/-- A station record (R1). Its slot is its place in the table. -/
structure Record where
  state : Lifecycle
  address : Octet
  group : Option Octet
  outToggle : Bool
  inToggle : Bool
  missCount : Nat
  retryCount : Nat
  outboundText : Option BufferNo
  cancelRequested : Bool
  resyncPending : Bool
  lastStatus : Option Octet
  quietLimit : Option Octet
  quietCount : Nat
  ringCount : Nat
  inboundCount : Nat
  reasons : ReasonSet
  failureCause : FailureCause
  deliveredCount : Word16
  receivedCount : Word16
deriving DecidableEq, Repr

/-- The FREE values of the fields of a record (R1, last column of the table). -/
def Record.free : Record :=
  { state := .free, address := 0, group := none, outToggle := false, inToggle := false
    missCount := 0, retryCount := 0, outboundText := none, cancelRequested := false
    resyncPending := false, lastStatus := none, quietLimit := none, quietCount := 0
    ringCount := 0, inboundCount := 0, reasons := 0, failureCause := .none
    deliveredCount := 0, receivedCount := 0 }

/-! ### Poll Scheduler (chapter 2) -/

/-- The state of the probe pass (R39). -/
inductive ProbePass where
  | none | pending | inProgress
deriving DecidableEq, Repr

/-- A running line timer: the period it took when it started and the octet times it has counted (R134). -/
structure Timer where
  period : Nat
  count : Nat
deriving DecidableEq, Repr

/-! ### Exchange Controller (chapter 3) -/

/-- The kind of an exchange with its slot and its outbound buffer: a GROUP exchange names no slot, and POLL and SYNC
name no buffer (R51). -/
inductive Exchange where
  | poll (slot : Slot)
  | text (slot : Slot) (buffer : BufferNo)
  | sync (slot : Slot)
  | group (buffer : BufferNo)
deriving DecidableEq, Repr

/-- The point reached by the exchange's block (R51). -/
inductive Point where
  | notSent | whollySent
deriving DecidableEq, Repr

/-- The exchange context (R51). -/
structure Context where
  exchange : Exchange
  address : Octet
  sSent : Bool
  aSent : Bool
  hSent : Bool
  point : Point
deriving DecidableEq, Repr

/-! ### Block Coder (chapter 6) -/

/-- The block the framer holds (R119): the format latched, the block's line octets in order, and how many of them have
ended. -/
structure Frame where
  leadOctet : Octet
  prefixOctet : Octet
  leadCount : Nat
  padCount : Nat
  octets : List Octet
  sent : Nat
deriving DecidableEq, Repr

/-- The phase of the receiver (R122). -/
inductive Phase where
  | off | hunting | aligned | body | ended
deriving DecidableEq, Repr

/-- The receiver (R122). `crcHigh` is the decoded CRC high octet, kept until the block's end (R125, R126). -/
structure Receiver where
  phase : Phase
  window : List Bool
  decoded : Nat
  escapeOpen : Bool
  kind : Octet
  address : Octet
  control : Octet
  length : Option Nat
  assembly : List Octet
  crc : Word16
  crcHigh : Octet
  /-- The bits taken so far of the octet in assembly on the alignment (R123). -/
  octetBits : List Bool
deriving DecidableEq, Repr

/-- The receiver in phase OFF with everything discarded (R122). DESIGN CHOICE (log 6): the cleared values of the fields
for which the specification gives none are zero. -/
def Receiver.off : Receiver :=
  { phase := .off, window := [], decoded := 0, escapeOpen := false, kind := 0, address := 0
    control := 0, length := none, assembly := [], crc := 0, crcHigh := 0, octetBits := [] }

/-! ### Line Engine (chapter 7) -/

/-- The ten states of the Line Engine (R130). -/
inductive EngineState where
  | stopped | gap | ready | raising | sending | listening | receiving | settling | fault | testing
deriving DecidableEq, Repr

/-- The judgement of a TEST block (R151). -/
inductive Verdict where
  | pass | mismatch
deriving DecidableEq, Repr

/-- A LINE TEST under way: the text of the block sent, and the judgement once it is made (R150, R151). -/
structure LineTest where
  text : List Octet
  verdict : Option Verdict
deriving DecidableEq, Repr

/-- The last fault code (R143, R165). -/
inductive FaultCode where
  | none | ctsTimeout | ctsLost | carrierStuck
deriving DecidableEq, Repr

/-! ### Text Store (chapter 4) -/

/-- An outbound buffer (R79). Its length is the length of its text; FREE holds neither owner nor text, and only GROUP
has repeats remaining. -/
inductive OutBuffer where
  | free
  | filled (owner : Slot) (text : List Octet)
  | inFlight (owner : Slot) (text : List Octet)
  | group (owner : Octet) (text : List Octet) (repeats : Nat)
deriving DecidableEq, Repr

/-- A FULL inbound buffer (R90). -/
structure InboundText where
  slot : Slot
  address : Octet
  text : List Octet
deriving DecidableEq, Repr

/-! ### Parameter File (chapter 8) -/

/-- The clock that times the line (R131). -/
inductive ClockSource where
  | modem | internal
deriving DecidableEq, Repr

/-- The Parameter File (R154): the fifteen writable parameters, the held divisor low octet (R161) and the last fault
code. -/
structure Params where
  leadOctet : Octet
  prefixOctet : Octet
  leadCount : Octet
  padCount : Octet
  clockSource : ClockSource
  divisor : Word16
  divisorLowHeld : Octet
  replyTimeout : Octet
  ctsTimeout : Octet
  turnaroundGap : Octet
  probeInterval : Octet
  suspectThreshold : Octet
  lostThreshold : Octet
  retryLimit : Octet
  groupRepeat : Octet
  lastFault : FaultCode
deriving DecidableEq, Repr

/-- The defaults of the Parameter File (R154). -/
def Params.default : Params :=
  { leadOctet := Config.defaultLead, prefixOctet := Config.defaultPrefix
    leadCount := Config.defaultLeadCount, padCount := Config.defaultPadCount
    clockSource := .modem, divisor := Config.defaultDivisor, divisorLowHeld := 0
    replyTimeout := Config.defaultReplyTimeout, ctsTimeout := Config.defaultCtsTimeout
    turnaroundGap := Config.defaultTurnaroundGap, probeInterval := Config.defaultProbeInterval
    suspectThreshold := Config.defaultSuspectThreshold
    lostThreshold := Config.defaultLostThreshold, retryLimit := Config.defaultRetryLimit
    groupRepeat := Config.defaultGroupRepeat, lastFault := .none }

/-! ### Host Port and Command Processor (chapter 9) -/

/-- A command in progress, as copied at its acceptance (R169): the code, the arguments (their number is the argument
count) and the state of ARGUMENT OVERFLOW. -/
structure Command where
  code : Octet
  args : List Octet
  overflow : Bool
deriving DecidableEq, Repr

/-! ### The whole device -/

/-- The state of the 614. BUSY is set exactly while `command` is present (R169, R172); the lengths of `staging`,
`argumentBlock` and `result` are the staging length, the argument cursor and the result length. `dataOut` and `pending`
are the model's own (log 5, log 9). -/
structure State where
  -- Station Table (R1)
  records : Vector Record Config.slots
  -- Poll Scheduler (R27, R34, R38, R39, R45)
  ring : List Slot
  ringCursor : Nat
  urgent : List Slot
  probeTimer : Option Timer
  probePass : ProbePass
  probeCursor : Nat
  followOn : Option Slot
  -- Exchange Controller (R51)
  context : Option Context
  -- Block Coder (R119, R122)
  framer : Option Frame
  receiver : Receiver
  -- Line Engine (R130, R133, R134, R139, R147, R150)
  engine : EngineState
  cts : Bool
  dcd : Bool
  ctsLoss : Bool
  gapTimer : Option Timer
  ctsTimer : Option Timer
  replyTimer : Option Timer
  settleTimer : Option Timer
  stopRequested : Bool
  lineChange : Bool
  lineTest : Option LineTest
  -- Text Store (R77, R79, R80, R85, R90, R91)
  staging : List Octet
  stagingOverflow : Bool
  buffers : Vector OutBuffer Config.outboundBuffers
  bufferWanted : Bool
  groupQueue : List BufferNo
  inbound : List InboundText
  inboundCursor : Nat
  -- Attention Unit (R97, R105, R108)
  attention : List Slot
  causeDone : Bool
  causeBufferFree : Bool
  causeLineStopped : Bool
  causeLineFault : Bool
  mask : BitVec 7
  -- Host Port and Command Processor (R167, R168, R169, R173)
  argumentBlock : List Octet
  argumentOverflow : Bool
  command : Option Command
  done : Bool
  refused : Bool
  result : List Octet
  resultCursor : Nat
  -- Parameter File (R154, R155, R157)
  params : Params
  paramIndex : Octet
  paramRefused : Bool
  -- RST#, D0 to D7, and the commands waiting
  rstLow : Bool
  dataOut : Octet
  pending : List Instr
deriving DecidableEq, Repr

/-- The 614 right after the release of RST# (R3, R27, R34, R39, R45, R78, R79, R90, R91, R110, R122, R153, R154, R177),
with no command waiting. DESIGN CHOICE: CTS and DCD are inactive (log 4) and the data bus holds 0x00 (log 5). -/
def State.reset : State :=
  { records := Vector.replicate Config.slots Record.free
    ring := [], ringCursor := 0, urgent := [], probeTimer := none, probePass := .none
    probeCursor := 0, followOn := none
    context := none
    framer := none, receiver := Receiver.off
    engine := .stopped, cts := false, dcd := false, ctsLoss := false
    gapTimer := none, ctsTimer := none, replyTimer := none, settleTimer := none
    stopRequested := false, lineChange := false, lineTest := none
    staging := [], stagingOverflow := false
    buffers := Vector.replicate Config.outboundBuffers .free
    bufferWanted := false, groupQueue := [], inbound := [], inboundCursor := 0
    attention := [], causeDone := false, causeBufferFree := false, causeLineStopped := false
    causeLineFault := false, mask := 0
    argumentBlock := [], argumentOverflow := false, command := none, done := false
    refused := false, result := [], resultCursor := 0
    params := Params.default, paramIndex := 0, paramRefused := false
    rstLow := false, dataOut := 0, pending := [] }

/-- Why the 614 could stop. The specification describes no event at which it does: its own FAULT is a state of the Line
Engine (R143), so there is no constructor. Safe: no run ends here. -/
inductive Fault where
deriving DecidableEq, Repr

/-- Why a command could be turned away by the model. -/
inductive Refusal where
  /-- Raised by an arm of `exec` for a row that has no meaning in this model yet, never by a meaning. Safe: the run
  stops where the 614 goes on. No arm raises it: every row has its meaning. -/
  | notModelled (mnemonic : String)
deriving DecidableEq, Repr

end Sys2Proof.Machine
end

