-- ==== Sys2Proof/Machine/Ops.lean ====
section
/-! DEFINITION. The shared operations over the state: records, reasons and the attention list (chapter 5), outbound
buffers and texts (chapters 3 and 4), timers and the engine's entries (chapter 7). Every meaning is written over
these. -/

namespace Sys2Proof.Machine

/-! ### Records -/

/-- The record of a slot (R1). -/
def State.record (s : State) (i : Slot) : Record := s.records[i.val]

/-- The record of a slot replaced. -/
def State.setRecord (s : State) (i : Slot) (r : Record) : State :=
  { s with records := s.records.set i.val r i.isLt }

/-- The record of a slot changed. -/
def State.modRecord (s : State) (i : Slot) (f : Record → Record) : State :=
  s.setRecord i (f (s.record i))

/-- STAGED, ACTIVE, SUSPECT and LOST: the station is in service (1.2, R62). -/
def Lifecycle.isInService : Lifecycle → Bool
  | .inService _ => true
  | _ => false

/-- ACTIVE and SUSPECT: the station is visited (R8, R46). -/
def Lifecycle.isVisited : Lifecycle → Bool
  | .inService .active => true
  | .inService .suspect => true
  | _ => false

/-- STAGED and LOST: the station is reached by SYNC exchanges only (R40, R54). -/
def Lifecycle.isProbed : Lifecycle → Bool
  | .inService .staged => true
  | .inService .lost => true
  | _ => false

/-- The lowest-numbered FREE slot, if any (R12). -/
def State.lowestFreeSlot (s : State) : Option Slot :=
  (List.finRange Config.slots).find? fun i => (s.record i).state == .free

/-- The slot whose record is not FREE and holds the address, if any; the lowest such slot (R10). -/
def State.slotOfAddress (s : State) (a : Octet) : Option Slot :=
  (List.finRange Config.slots).find? fun i =>
    (s.record i).state != .free && (s.record i).address == a

/-- Whether a record other than that of slot `i` is not FREE and holds the address (R9, R15). -/
def State.addressHeldByOther (s : State) (i : Slot) (a : Octet) : Bool :=
  (List.finRange Config.slots).any fun j =>
    j != i && (s.record j).state != .free && (s.record j).address == a

/-- An individual address, 0x01..0xEF (R9). -/
def isIndividualAddress (a : Octet) : Bool := 0x01 ≤ a.toNat && a.toNat ≤ 0xEF

/-- The value of a group argument: 0x00 for none, or a group address 0xF0..0xFE (R12, R16). -/
def isGroupArgument (a : Octet) : Bool := a == 0 || (0xF0 ≤ a.toNat && a.toNat ≤ 0xFE)

/-- An optional octet as the host writes it: 0x00 is absent (R4). -/
def optionalOctet (a : Octet) : Option Octet := if a = 0 then none else some a

/-- The resync pending flag of a record set (R71). -/
def State.setResync (s : State) (i : Slot) : State :=
  s.modRecord i fun r => { r with resyncPending := true }

/-! ### Reasons and the attention list (R95 to R99) -/

/-- The bit position of a reason (R95). -/
def Reason.bit : Reason → Nat
  | .admitted => 0
  | .suspect => 1
  | .lost => 2
  | .recovered => 3
  | .delivered => 4
  | .failed => 5
  | .status => 6
  | .quiet => 7
  | .protocol => 8
  | .retired => 9

/-- A reason added to a set; a reason already there leaves the set unchanged (R95). -/
def reasonAdd (rs : ReasonSet) (r : Reason) : ReasonSet := rs ||| (1#10 <<< r.bit)

/-- Whether a reason is in a set (R95). -/
def reasonIn (rs : ReasonSet) (r : Reason) : Bool := rs.getLsbD r.bit

/-- Whether a record of this state takes the reason (R62, R95): every reason in service, DELIVERED and FAILED in HELD,
RETIRED alone in RETIRING, none in FREE. -/
def mayRaise (st : Lifecycle) (r : Reason) : Bool :=
  match st with
  | .free => false
  | .inService _ => r != .retired
  | .held _ => r == .delivered || r == .failed
  | .retiring => r == .retired

/-- Raising a reason for a slot, where the record's standing allows it: into an empty set with an append to the tail of
the attention list, or into a set that keeps its place (R62, R98). -/
def State.raise (s : State) (i : Slot) (r : Reason) : State :=
  if mayRaise (s.record i).state r then
    let t := s.modRecord i fun x => { x with reasons := reasonAdd x.reasons r }
    { t with
      attention := if (s.record i).reasons = 0 then s.attention ++ [i] else s.attention }
  else s

/-- Raising FAILED, which writes the failure cause (R96, R98). -/
def State.raiseFailed (s : State) (i : Slot) (c : FailureCause) : State :=
  if mayRaise (s.record i).state .failed then
    (s.raise i .failed).modRecord i fun r => { r with failureCause := c }
  else s

/-- A slot's reason set emptied, its failure cause NONE and its entry taken off the attention list (R99). -/
def State.purgeReasons (s : State) (i : Slot) : State :=
  let t := s.modRecord i fun r => { r with reasons := 0, failureCause := .none }
  { t with attention := s.attention.filter (· != i) }

/-! ### Outbound buffers and texts (R62, R79, R80) -/

/-- The lowest-numbered FREE buffer, if any (R82, R84). -/
def State.lowestFreeBuffer (s : State) : Option BufferNo :=
  (List.finRange Config.outboundBuffers).find? fun b => s.buffers[b.val] == .free

/-- An outbound buffer freed by any event but a reset: BUFFER FREE is raised and buffer-wanted cleared if it was set
(R80). -/
def State.freeBuffer (s : State) (b : BufferNo) : State :=
  { s with
    buffers := s.buffers.set b.val .free b.isLt
    causeBufferFree := s.causeBufferFree || s.bufferWanted
    bufferWanted := false }

/-- "The text is freed" (R62): its buffer becomes FREE, the record names no buffer, the retry count becomes 0 and cancel
requested is cleared. -/
def State.freeText (s : State) (i : Slot) : State :=
  let t := match (s.record i).outboundText with
    | some b => s.freeBuffer b
    | none => s
  t.modRecord i fun r =>
    { r with outboundText := none, retryCount := 0, cancelRequested := false }

/-- "The text is failed with cause c" (R62): freed, and FAILED raised where the record's state allows it. -/
def State.failText (s : State) (i : Slot) (c : FailureCause) : State :=
  (s.freeText i).raiseFailed i c

/-- "The text is returned" (R62): its buffer goes from IN FLIGHT to FILLED and the record keeps naming it. -/
def State.returnText (s : State) (i : Slot) : State :=
  match (s.record i).outboundText with
  | none => s
  | some b =>
    match s.buffers[b.val] with
    | .inFlight o t => { s with buffers := s.buffers.set b.val (.filled o t) b.isLt }
    | .free | .filled _ _ | .group _ _ _ => s

/-- Whether the buffer that a record names is IN FLIGHT (R13, flags bit 5). -/
def State.textInFlight (s : State) (i : Slot) : Bool :=
  match (s.record i).outboundText with
  | none => false
  | some b =>
    match s.buffers[b.val] with
    | .inFlight _ _ => true
    | .free | .filled _ _ | .group _ _ _ => false

/-- Whether the buffer that a record names is FILLED (R46, R47, R54). -/
def State.textFilled (s : State) (i : Slot) : Bool :=
  match (s.record i).outboundText with
  | none => false
  | some b =>
    match s.buffers[b.val] with
    | .filled _ _ => true
    | .free | .inFlight _ _ | .group _ _ _ => false

/-! ### The RETIRED condition (R22) -/

/-- The slot an exchange names; a GROUP exchange names none (R51). -/
def Exchange.slot? : Exchange → Option Slot
  | .poll i => some i
  | .text i _ => some i
  | .sync i => some i
  | .group _ => none

/-- Whether the exchange context names the slot (R22). -/
def State.contextNames (s : State) (i : Slot) : Bool :=
  match s.context with
  | none => false
  | some c => c.exchange.slot? == some i

/-- The test of the RETIRED condition at one of the three events of R22: RETIRED is raised for a RETIRING record whose
inbound count is 0 and that no exchange context names. -/
def State.testRetired (s : State) (i : Slot) : State :=
  if (s.record i).state = .retiring ∧ (s.record i).inboundCount = 0 ∧ s.contextNames i = false then
    s.raise i .retired
  else s

/-- The exchange context ended, its outcome having been applied, with the RETIRED test of R22 for the slot it named
(R52, R62). -/
def State.endContext (s : State) (x : Exchange) : State :=
  let t := { s with context := none }
  match x.slot? with
  | some i => t.testRetired i
  | none => t

/-! ### The urgent list (R34, R35, R37) -/

/-- A slot appended to the tail of the urgent list, if that list has room (R35). -/
def State.appendUrgent (s : State) (i : Slot) : State :=
  if s.urgent.length < Config.urgentCapacity then { s with urgent := s.urgent ++ [i] } else s

/-- A slot taken out of whatever place it holds in the urgent list (R37). -/
def State.removeUrgent (s : State) (i : Slot) : State :=
  { s with urgent := s.urgent.filter (· != i) }

/-! ### Timers (R134) -/

/-- A line timer started: the period is taken now and the count is zero (R134). -/
def startTimer (period : Nat) : Option Timer := some { period := period, count := 0 }

/-- The probe timer's period, Probe Interval units of 64 octet times (R38). -/
def Params.probePeriod (p : Params) : Nat := p.probeInterval.toNat * Config.probeUnit

/-! ### The engine's entries (R130, R135, R142, R143, R144) -/

/-- The effects common to every entry into STOPPED or FAULT (R144). RTS and TXD are functions of the engine state. -/
def State.halt (s : State) : State :=
  { s with
    framer := none
    receiver := Receiver.off
    gapTimer := none, ctsTimer := none, replyTimer := none, settleTimer := none
    ctsLoss := false
    stopRequested := false
    lineTest := none
    probeTimer := none, probePass := .none, probeCursor := 0
    followOn := none }

/-- The engine enters STOPPED; LINE STOPPED is set when a stop or an abort makes the entry (R105, R144). -/
def State.enterStopped (s : State) (byStop : Bool) : State :=
  { s.halt with
    engine := .stopped
    causeLineStopped := s.causeLineStopped || byStop }

/-- The engine enters FAULT with a code (R105, R143, R144). -/
def State.enterFault (s : State) (c : FaultCode) : State :=
  { s.halt with
    engine := .fault
    params := { s.params with lastFault := c }
    causeLineFault := true }

/-- The engine enters GAP and starts the gap timer; with a Turnaround Gap of 0 READY is entered in the same event
(R134, R135). -/
def State.enterGap (s : State) : State :=
  if s.params.turnaroundGap = 0 then
    { s with engine := .ready, framer := none, receiver := Receiver.off, gapTimer := none }
  else
    { s with
      engine := .gap, framer := none, receiver := Receiver.off
      gapTimer := startTimer s.params.turnaroundGap.toNat }

/-- The end of a turn: GAP, or STOPPED with LINE STOPPED when a stop is requested (R135, R148). -/
def State.endTurn (s : State) : State :=
  if s.stopRequested then s.enterStopped true else s.enterGap

/-- The engine enters SETTLING with the outcome applied; with DCD inactive, settling ends in the same event (R142). -/
def State.enterSettling (s : State) : State :=
  let t := { s with engine := .settling, receiver := Receiver.off }
  if s.dcd then { t with settleTimer := startTimer s.params.replyTimeout.toNat } else t.endTurn

end Sys2Proof.Machine
end

