-- ==== Sys2Proof/Machine/Flags.lean ====
section
/-! DEFINITION. The flags and outputs of the 614 as the ports and pins show them: STATUS (R167), CAUSE (R103), MASK
(R108), INT# (R109), LINE STATUS (R152), RTS and TXD (R130, R132). None of them is stored: each is read from the state
that owns it. -/

namespace Sys2Proof.Machine

/-- An octet with one bit, bit `k`, set as given. -/
def bitOctet (k : Nat) (b : Bool) : Octet := if b then 1#8 <<< k else 0

/-- BUSY: a command has been accepted and has not completed (R167, R169, R172). -/
def State.busy (s : State) : Bool := s.command.isSome

/-- The octet of the STATUS port (R167). -/
def State.statusOctet (s : State) : Octet :=
  bitOctet 7 s.busy ||| bitOctet 6 s.done ||| bitOctet 5 s.refused |||
    bitOctet 4 s.argumentOverflow ||| bitOctet 3 s.stagingOverflow ||| bitOctet 2 s.paramRefused

/-- ATTENTION is high while the attention list is not empty (R103, R104). -/
def State.causeAttention (s : State) : Bool := !s.attention.isEmpty

/-- INBOUND is high while at least one inbound buffer is FULL (R103, R104). -/
def State.causeInbound (s : State) : Bool := !s.inbound.isEmpty

/-- The octet of the CAUSE port (R103). -/
def State.causeOctet (s : State) : Octet :=
  bitOctet 0 s.causeAttention ||| bitOctet 1 s.causeInbound ||| bitOctet 2 s.causeDone |||
    bitOctet 3 s.causeBufferFree ||| bitOctet 4 s.causeLineStopped |||
    bitOctet 5 s.causeLineFault ||| bitOctet 6 s.lineChange

/-- The octet of the MASK port: the seven bits last written, bit 7 read as 0 (R108). -/
def State.maskOctet (s : State) : Octet := s.mask.setWidth 8

/-- INT# is asserted while at least one cause is high whose MASK bit is 1 (R109). -/
def State.intAsserted (s : State) : Bool := s.causeOctet &&& s.maskOctet != 0

/-- The engine state code of LINE STATUS (R130). -/
def EngineState.code : EngineState → Octet
  | .stopped => 0
  | .gap => 1
  | .ready => 2
  | .raising => 3
  | .sending => 4
  | .listening => 5
  | .receiving => 6
  | .settling => 7
  | .fault => 8
  | .testing => 9

/-- RTS is asserted in RAISING and SENDING and released in every other state (R130, R132). -/
def State.rtsAsserted (s : State) : Bool := s.engine == .raising || s.engine == .sending

/-- The octet on TXD: the framer's octet in progress in SENDING; none, that is mark, in every other state (R120, R132).
-/
def State.txd (s : State) : Option Octet :=
  match s.engine, s.framer with
  | .sending, some f => f.octets[f.sent]?
  | _, _ => none

/-- The octet of the LINE STATUS port (R152). -/
def State.lineStatusOctet (s : State) : Octet :=
  s.engine.code <<< 4 ||| bitOctet 3 s.lineChange ||| bitOctet 2 s.dcd ||| bitOctet 1 s.cts |||
    bitOctet 0 s.rtsAsserted

/-- The code of the last fault (R154). -/
def FaultCode.code : FaultCode → Octet
  | .none => 0
  | .ctsTimeout => 1
  | .ctsLost => 2
  | .carrierStuck => 3

/-- The octet of the Clock Source parameter (R154). -/
def ClockSource.code : ClockSource → Octet
  | .modem => 0
  | .internal => 1

/-- The state code of a record (R1, R8). -/
def Lifecycle.code : Lifecycle → Octet
  | .free => 0
  | .inService .staged => 1
  | .inService .active => 2
  | .inService .suspect => 3
  | .inService .lost => 4
  | .held _ => 5
  | .retiring => 6

/-- The code of a failure cause (R96). -/
def FailureCause.code : FailureCause → Octet
  | .none => 0
  | .retries => 1
  | .lost => 2
  | .cancelled => 3

/-- The code of the probe pass state (R32). -/
def ProbePass.code : ProbePass → Octet
  | .none => 0
  | .pending => 1
  | .inProgress => 2

/-- The flags octet of READ STATION (R13, octet 4). -/
def State.stationFlags (s : State) (i : Slot) : Octet :=
  let r := s.record i
  bitOctet 0 r.resyncPending ||| bitOctet 1 r.outboundText.isSome |||
    bitOctet 2 r.cancelRequested ||| bitOctet 3 r.lastStatus.isSome |||
    bitOctet 4 r.quietLimit.isSome ||| bitOctet 5 (s.textInFlight i)

/-- The high octet of a reason set: PROTOCOL in bit 0, RETIRED in bit 1 (R100, octet 4). -/
def reasonsHigh (rs : ReasonSet) : Octet := highOctet (rs.setWidth 16)

/-- The low octet of a reason set: ADMITTED to QUIET in bits 0 to 7 (R100, octet 5). -/
def reasonsLow (rs : ReasonSet) : Octet := lowOctet (rs.setWidth 16)

/-- The parameter value that a PARAMETER DATA read returns at an index (R156). -/
def Params.readAt (p : Params) (i : Octet) : Octet :=
  if i = 0x00 then p.leadOctet
  else if i = 0x01 then p.prefixOctet
  else if i = 0x02 then p.leadCount
  else if i = 0x03 then p.padCount
  else if i = 0x04 then p.clockSource.code
  else if i = 0x05 then lowOctet p.divisor
  else if i = 0x06 then highOctet p.divisor
  else if i = 0x07 then p.replyTimeout
  else if i = 0x08 then p.ctsTimeout
  else if i = 0x09 then p.turnaroundGap
  else if i = 0x0A then p.probeInterval
  else if i = 0x0B then p.suspectThreshold
  else if i = 0x0C then p.lostThreshold
  else if i = 0x0D then p.retryLimit
  else if i = 0x0E then p.groupRepeat
  else if i = 0x0F then p.lastFault.code
  else 0

/-- The octet a RESULT read returns: the octet at the cursor, or 0x00 at the result length (R173). -/
def State.resultOctet (s : State) : Octet := s.result.getD s.resultCursor 0

/-- The octet an INBOUND TEXT read returns: the head text's octet at the cursor, or 0x00 (R91). -/
def State.inboundOctet (s : State) : Octet :=
  match s.inbound with
  | [] => 0
  | t :: _ => t.text.getD s.inboundCursor 0

/-- The octet that a read of a port returns; 0x00 while RST# is low (R166, R176). -/
def State.portRead (s : State) (a : PortAddress) : Octet :=
  if s.rstLow then 0
  else if a = 0 then s.statusOctet
  else if a = 1 then s.resultOctet
  else if a = 2 then s.inboundOctet
  else if a = 3 then s.causeOctet
  else if a = 4 then s.maskOctet
  else if a = 5 then s.paramIndex
  else if a = 6 then s.params.readAt s.paramIndex
  else s.lineStatusOctet

end Sys2Proof.Machine
end

