-- ==== Sys2Proof/Machine/Operands.lean ====
section
/-! DEFINITION. Commands and results: the command table (9.6), the result codes (R174), the slot argument (R11) and the
completion of a command (R171, R172). -/

namespace Sys2Proof.Machine

/-- The commands of the command table (9.6). -/
inductive CommandName where
  | admitStation | findStation | readStation | modifyStation | holdStation | releaseStation
  | retireStation | syncStation | tableReset
  | ringInsert | ringRemove | ringRead | ringStatus | pollNow
  | queueText | queueGroupText | cancelText | clearStaging | readInbound | releaseInbound
  | bufferStatus
  | nextAttention
  | startLine | stopLine | abortLine | lineTest
deriving DecidableEq, Repr

/-- A row of the command table: code, number of arguments, result length (R173). -/
structure CommandRow where
  code : Octet
  args : Nat
  length : Nat
deriving DecidableEq, Repr

/-- The command table (9.6, R173). -/
def CommandName.row : CommandName → CommandRow
  | .admitStation => ⟨0x10, 3, 3⟩
  | .findStation => ⟨0x11, 1, 3⟩
  | .readStation => ⟨0x12, 1, 17⟩
  | .modifyStation => ⟨0x13, 3, 1⟩
  | .holdStation => ⟨0x14, 1, 1⟩
  | .releaseStation => ⟨0x15, 1, 1⟩
  | .retireStation => ⟨0x16, 1, 1⟩
  | .syncStation => ⟨0x17, 1, 1⟩
  | .tableReset => ⟨0x1F, 0, 1⟩
  | .ringInsert => ⟨0x20, 2, 1⟩
  | .ringRemove => ⟨0x21, 1, 2⟩
  | .ringRead => ⟨0x22, 1, 2⟩
  | .ringStatus => ⟨0x23, 0, 5⟩
  | .pollNow => ⟨0x24, 1, 1⟩
  | .queueText => ⟨0x30, 1, 2⟩
  | .queueGroupText => ⟨0x31, 1, 2⟩
  | .cancelText => ⟨0x32, 1, 1⟩
  | .clearStaging => ⟨0x33, 0, 1⟩
  | .readInbound => ⟨0x34, 0, 4⟩
  | .releaseInbound => ⟨0x35, 0, 1⟩
  | .bufferStatus => ⟨0x36, 0, 5⟩
  | .nextAttention => ⟨0x40, 0, 9⟩
  | .startLine => ⟨0x50, 0, 1⟩
  | .stopLine => ⟨0x51, 0, 1⟩
  | .abortLine => ⟨0x52, 0, 1⟩
  | .lineTest => ⟨0x53, 0, 1⟩

/-- Every command of the command table. -/
def CommandName.all : List CommandName :=
  [.admitStation, .findStation, .readStation, .modifyStation, .holdStation, .releaseStation,
   .retireStation, .syncStation, .tableReset, .ringInsert, .ringRemove, .ringRead, .ringStatus,
   .pollNow, .queueText, .queueGroupText, .cancelText, .clearStaging, .readInbound,
   .releaseInbound, .bufferStatus, .nextAttention, .startLine, .stopLine, .abortLine, .lineTest]

/-- Whether a code names a command of the table (R171). -/
def isCommandCode (c : Octet) : Bool := CommandName.all.any fun n => n.row.code == c

/-- The result codes (R174). -/
inductive ResultCode where
  | ok | pending | cancelled | none
  | unknownCommand | arguments | badSlot | badAddress | notFound | addressInUse | tableFull
  | wrongState | already | ringFull | slotLimit | badPosition | urgentFull | noBuffer
  | textPending | noText | length | lineRunning | badField
  | pass | mismatch | noSignal
deriving DecidableEq, Repr

/-- The octet of a result code (R174). -/
def ResultCode.octet : ResultCode → Octet
  | .ok => 0x00
  | .pending => 0x01
  | .cancelled => 0x02
  | .none => 0x03
  | .unknownCommand => 0x10
  | .arguments => 0x11
  | .badSlot => 0x12
  | .badAddress => 0x13
  | .notFound => 0x14
  | .addressInUse => 0x15
  | .tableFull => 0x16
  | .wrongState => 0x17
  | .already => 0x18
  | .ringFull => 0x19
  | .slotLimit => 0x1A
  | .badPosition => 0x1B
  | .urgentFull => 0x1C
  | .noBuffer => 0x1D
  | .textPending => 0x1E
  | .noText => 0x1F
  | .length => 0x20
  | .lineRunning => 0x21
  | .badField => 0x22
  | .pass => 0x30
  | .mismatch => 0x31
  | .noSignal => 0x32

/-- What a command's own rule gives at completion: the state with its effect applied, the result code and the result
data. -/
structure Completion where
  state : State
  code : ResultCode
  data : List Octet

/-- A refusal: a result code, no data, and nothing changed (R11). -/
def refuse (s : State) (c : ResultCode) : Completion := { state := s, code := c, data := [] }

/-- A result with data. -/
def answer (s : State) (c : ResultCode) (data : List Octet) : Completion :=
  { state := s, code := c, data := data }

/-- The result block's octets: the code, the data, and 0x00 up to the result length (R172, R173). -/
def resultOctets (length : Nat) (c : ResultCode) (data : List Octet) : List Octet :=
  c.octet :: ((data ++ List.replicate (length - 1) 0).take (length - 1))

/-- The port's part of a completion: the result block written, its cursor at 0, BUSY cleared, DONE set in STATUS and as
the DONE cause (R172). -/
def State.finish (s : State) (length : Nat) (c : ResultCode) (data : List Octet) : State :=
  { s with
    result := resultOctets length c data
    resultCursor := 0
    command := none
    done := true
    causeDone := true }

/-- Whether the command in progress has this code (R169). -/
def State.inProgress (s : State) (code : Octet) : Bool :=
  match s.command with
  | none => false
  | some c => c.code == code

/-- The completion of the command `n` with the arguments copied at its acceptance: ARGUMENTS if their number is wrong or
ARGUMENT OVERFLOW was set, else the command's own rule (R171, R172). Where `n` is not in progress the event does not
occur and nothing changes (log 1). -/
def State.complete (s : State) (n : CommandName) (body : List Octet → State → Completion) : State :=
  match s.command with
  | none => s
  | some c =>
    if c.code = n.row.code then
      if c.overflow = true ∨ c.args.length ≠ n.row.args then
        s.finish n.row.length .arguments []
      else
        let k := body c.args s
        k.state.finish n.row.length k.code k.data
    else s

/-- An argument octet by its position (R169). -/
def argument (args : List Octet) (k : Nat) : Octet := args.getD k 0

/-- The check of a slot argument: above 39 gives BAD SLOT (R11). -/
def withSlot (o : Octet) (s : State) (k : Slot → Completion) : Completion :=
  if h : o.toNat < Config.slots then k ⟨o.toNat, h⟩ else refuse s .badSlot

/-- The octet of a slot number. -/
def slotOctet (i : Slot) : Octet := octetOfNat i.val

end Sys2Proof.Machine
end

