-- ==== Sys2Proof/Machine/Attention.lean ====
section
/-! DEFINITION. NEXT ATTENTION (5.3). -/

namespace Sys2Proof.Machine

/-- The eight result octets of NEXT ATTENTION (R100). -/
def State.attentionOctets (s : State) (i : Slot) : List Octet :=
  let r := s.record i
  [slotOctet i, r.address, r.state.code, reasonsHigh r.reasons, reasonsLow r.reasons,
   r.failureCause.code, r.lastStatus.getD 0, if r.lastStatus.isSome then 1 else 0]

/-- The record after its reasons are taken: FREE if RETIRED was among them (R23, R101). -/
def takenRecord (r : Record) : Record :=
  if reasonIn r.reasons .retired then Record.free else { r with reasons := 0, failureCause := .none }

/-- NEXT ATTENTION's own rule (R100, R101). -/
def nextAttention (_args : List Octet) (s : State) : Completion :=
  match s.attention with
  | [] => refuse s .none
  | i :: rest =>
    let t := s.setRecord i (takenRecord (s.record i))
    answer { t with attention := rest } .ok (s.attentionOctets i)

/-- NEXT_ATTENTION (R100, R101). -/
def execNextAttention (s : State) : Host.Outcome State Fault Refusal :=
  .next (s.complete .nextAttention nextAttention)

end Sys2Proof.Machine
end

