-- ==== Sys2Proof/Machine/HostPort.lean ====
section
/-! DEFINITION. The host port (chapter 9): the command handshake, the text port, CAUSE CLEAR and MASK, LINE STATUS, and
RST#. While RST# is low every read returns 0x00 and every write is ignored (R176). -/

namespace Sys2Proof.Machine

/-- A port write: ignored while RST# is low (R176). -/
def State.portWrite (s : State) (t : State) : State := if s.rstLow then s else t

/-- A port read that returns `o` and leaves `t`: 0x00 and no effect while RST# is low (R176). The octet returned stands
on D0..D7 (log 5). -/
def State.portReadStep (s : State) (o : Octet) (t : State) : State :=
  if s.rstLow then { s with dataOut := 0 } else { t with dataOut := o }

/-! ### COMMAND, ARGUMENT and RESULT (R168 to R173) -/

/-- The acceptance of a command code (R169). -/
def State.accept (s : State) (code : Octet) : State :=
  { s with
    command := some { code := code, args := s.argumentBlock, overflow := s.argumentOverflow }
    argumentBlock := []
    argumentOverflow := false
    done := false
    refused := false
    causeDone := false
    result := []
    resultCursor := 0 }

/-- ACCEPTANCE: a COMMAND write, accepted while BUSY is clear (R169) and refused while it is set (R170). -/
def execAcceptance (code : Octet) (s : State) : Host.Outcome State Fault Refusal :=
  .next (s.portWrite (if s.busy then { s with refused := true } else s.accept code))

/-- ARGUMENT_WRITE: the octet stored at the argument cursor, or discarded with ARGUMENT OVERFLOW once 8 are held (R168).
-/
def execArgumentWrite (o : Octet) (s : State) : Host.Outcome State Fault Refusal :=
  .next (s.portWrite
    (if s.argumentBlock.length < Config.argumentCapacity then
      { s with argumentBlock := s.argumentBlock ++ [o] }
    else { s with argumentOverflow := true }))

/-- RESULT_READ: the octet at the result cursor, which advances while it is below the result length (R173). -/
def execResultRead (s : State) : Host.Outcome State Fault Refusal :=
  .next (s.portReadStep s.resultOctet
    (if s.resultCursor < s.result.length then { s with resultCursor := s.resultCursor + 1 } else s))

/-- UNKNOWN_COMMAND: an accepted code that names no command completes with a result length of 1 (R171, R173). -/
def execUnknownCommand (s : State) : Host.Outcome State Fault Refusal :=
  .next (match s.command with
    | some c => if isCommandCode c.code then s else s.finish 1 .unknownCommand []
    | none => s)

/-! ### The text port (R77, R91) -/

/-- STAGING_TEXT_WRITE: the octet stored behind the staging text, or discarded with STAGING OVERFLOW at 128 (R77). -/
def execStagingTextWrite (o : Octet) (s : State) : Host.Outcome State Fault Refusal :=
  .next (s.portWrite
    (if s.staging.length < Config.stagingCapacity then { s with staging := s.staging ++ [o] }
    else { s with stagingOverflow := true }))

/-- The inbound read cursor after a read of the INBOUND TEXT port (R91). -/
def State.inboundCursorAfterRead (s : State) : Nat :=
  match s.inbound with
  | [] => s.inboundCursor
  | t :: _ => if s.inboundCursor < t.text.length then s.inboundCursor + 1 else s.inboundCursor

/-- INBOUND_TEXT_READ: the head text's octet at the cursor, or 0x00 (R91). -/
def execInboundTextRead (s : State) : Host.Outcome State Fault Refusal :=
  .next (s.portReadStep s.inboundOctet { s with inboundCursor := s.inboundCursorAfterRead })

/-! ### CAUSE CLEAR, MASK and LINE STATUS (R106, R108, R152) -/

/-- CAUSE_CLEAR_WRITE: each sticky cause whose bit, among bits 2 to 6, is 1 is cleared (R106). -/
def execCauseClearWrite (o : Octet) (s : State) : Host.Outcome State Fault Refusal :=
  .next (s.portWrite
    { s with
      causeDone := s.causeDone && !o.getLsbD 2
      causeBufferFree := s.causeBufferFree && !o.getLsbD 3
      causeLineStopped := s.causeLineStopped && !o.getLsbD 4
      causeLineFault := s.causeLineFault && !o.getLsbD 5
      lineChange := s.lineChange && !o.getLsbD 6 })

/-- MASK_WRITE: bits 0 to 6 replace the seven enable bits (R108). -/
def execMaskWrite (o : Octet) (s : State) : Host.Outcome State Fault Refusal :=
  .next (s.portWrite { s with mask := o.extractLsb' 0 7 })

/-- LINE_STATUS_READ: the engine and the modem signals are returned and the line change flag is then cleared (R152). -/
def execLineStatusRead (s : State) : Host.Outcome State Fault Refusal :=
  .next (s.portReadStep s.lineStatusOctet { s with lineChange := false })

/-- LINE_STATUS_PORT_WRITE: a write to port 7 changes nothing (R152, R166). -/
def execLineStatusPortWrite (_o : Octet) (s : State) : Host.Outcome State Fault Refusal := .next s

/-! ### RST# (R3, R110, R153, R154, R176, R177) -/

/-- Every block at its reset value with RST# held low. The levels of the pins CTS and DCD, what the data bus last
carried, and the commands waiting are not the device's to reset (log 13). -/
def State.heldInReset (s : State) : State :=
  { State.reset with
    rstLow := true, cts := s.cts, dcd := s.dcd, dataOut := s.dataOut, pending := s.pending }

/-- MASTER_RESET: RST# falls; every block takes its reset value, and any exchange and any BUSY command is discarded
(R176). -/
def execMasterReset (s : State) : Host.Outcome State Fault Refusal := .next s.heldInReset

/-- RST_RELEASED: RST# is released, and the device holds its reset values, ready to accept a command (R177). -/
def execRstReleased (s : State) : Host.Outcome State Fault Refusal := .next { s with rstLow := false }

end Sys2Proof.Machine
end

