-- ==== Sys2Proof/Machine/Coder.lean ====
section
/-! DEFINITION. The Block Coder (chapter 6): the CRC, the escapes, the transmit framer's block and the receiver's hunt
and decoding, as functions of the octets and bits they are given. -/

namespace Sys2Proof.Machine

/-! ### Bits and the CRC (R112, R118) -/

/-- The octet of a run of bits in the order they came on the line, least significant first (R112). -/
def octetOfBits (bs : List Bool) : Octet := octetOfNat (bs.foldr (fun b n => b.toNat + 2 * n) 0)

/-- The bits of an octet in the order they go on the line, least significant first (R112). -/
def lineBits (o : Octet) : List Bool :=
  [o.getLsbD 0, o.getLsbD 1, o.getLsbD 2, o.getLsbD 3,
   o.getLsbD 4, o.getLsbD 5, o.getLsbD 6, o.getLsbD 7]

/-- One bit taken into the CRC register: shifted toward bit 15, and XORed with 0x1021 if bit 15 differs from the
incoming bit (R118). -/
def crcBit (r : Word16) (b : Bool) : Word16 :=
  if r.getLsbD 15 != b then (r <<< 1) ^^^ 0x1021#16 else r <<< 1

/-- One octet taken into the CRC register, most significant bit first (R118). -/
def crcOctet (r : Word16) (o : Octet) : Word16 := (lineBits o).reverse.foldl crcBit r

/-- The initial value of the CRC register (R118). -/
def crcStart : Word16 := 0xFFFF

/-- The CRC over the unescaped octets of a body (R118). -/
def crcOf (os : List Octet) : Word16 := os.foldl crcOctet crcStart

/-! ### Kinds and the CONTROL octet (R113, R114) -/

/-- KIND code of a master's POLL block (R113). -/
def kindPoll : Octet := 0xC1
/-- KIND code of a master's TEXT block (R113). -/
def kindMasterText : Octet := 0xC2
/-- KIND code of a master's SYNC block (R113). -/
def kindSync : Octet := 0xC3
/-- KIND code of a master's GROUP block (R113). -/
def kindGroup : Octet := 0xC4
/-- KIND code of a TEST block (R113). -/
def kindTest : Octet := 0xCF
/-- KIND code of a station's NIL block (R113). -/
def kindNil : Octet := 0xA1
/-- KIND code of a station's TEXT block (R113). -/
def kindText : Octet := 0xA2
/-- KIND code of a station's ACK block (R113). -/
def kindAck : Octet := 0xA3
/-- KIND code of a station's NAK block (R113). -/
def kindNak : Octet := 0xA4
/-- KIND code of a station's STATUS block (R113). -/
def kindStatus : Octet := 0xA5

/-- The kinds valid in a received block: the five station kinds, or TEST alone in TESTING (R113, R129). -/
def validKind (testing : Bool) (k : Octet) : Bool :=
  if testing then k == kindTest
  else k == kindNil || k == kindText || k == kindAck || k == kindNak || k == kindStatus

/-- Whether a received kind carries LENGTH (R115). -/
def kindHasLength (k : Octet) : Bool := k == kindText || k == kindStatus || k == kindTest

/-- The LENGTH accepted for a received kind: exactly 1 for STATUS, 1..128 for TEXT and TEST (R115). -/
def lengthAccepted (k l : Octet) : Bool :=
  if k = kindStatus then l == 1 else 1 ≤ l.toNat && l.toNat ≤ Config.textCapacity

/-- The CONTROL octet: S in bit 0, A in bit 1, H in bit 2, the rest 0 (R114). -/
def controlOctet (s a h : Bool) : Octet :=
  (if s then 1 else 0) ||| (if a then 2 else 0) ||| (if h then 4 else 0)

/-! ### The transmit framer (R111, R116, R119) -/

/-- The second octet of an escape pair: bit 7 inverted (R116). -/
def escaped (o : Octet) : Octet := o ^^^ 0x80

/-- A body or CRC octet as it is sent: escaped when it equals LEAD or PREFIX (R116). -/
def escapeOctet (lead pre o : Octet) : List Octet :=
  if o = lead ∨ o = pre then [pre, escaped o] else [o]

/-- The line form of a run of body and CRC octets (R116). -/
def escapeAll (lead pre : Octet) (os : List Octet) : List Octet :=
  os.flatMap (escapeOctet lead pre)

/-- The unescaped body: KIND, ADDRESS, CONTROL, and for a text kind LENGTH and the text (R111). -/
def blockBody (kind address control : Octet) (text : Option (List Octet)) : List Octet :=
  [kind, address, control] ++
    match text with
    | none => []
    | some t => octetOfNat t.length :: t

/-- A body followed by its CRC, high octet then low octet (R111, R118). -/
def withCrc (body : List Octet) : List Octet :=
  body ++ [highOctet (crcOf body), lowOctet (crcOf body)]

/-- The block the framer builds: the format latched now, Lead Count LEAD octets, the escaped body and CRC, and Pad Count
pads of 0xFF (R111, R119). -/
def buildFrame (p : Params) (kind address control : Octet) (text : Option (List Octet)) : Frame :=
  { leadOctet := p.leadOctet
    prefixOctet := p.prefixOctet
    leadCount := p.leadCount.toNat
    padCount := p.padCount.toNat
    octets :=
      List.replicate p.leadCount.toNat p.leadOctet ++
        escapeAll p.leadOctet p.prefixOctet (withCrc (blockBody kind address control text)) ++
        List.replicate p.padCount.toNat 0xFF
    sent := 0 }

/-- The number of line octets up to and including the last of the CRC; the pads follow (R120). -/
def Frame.crcEnd (f : Frame) : Nat := f.octets.length - f.padCount

/-! ### The receiver (R122 to R127) -/

/-- The receiver at the start of a hunt: window empty and every other field cleared (R122). -/
def Receiver.startHunt : Receiver := { Receiver.off with phase := .hunting }

/-- One bit shifted into the window, which holds the last 8 bits in order of arrival (R123). -/
def shiftWindow (w : List Bool) (b : Bool) : List Bool :=
  if w.length < 8 then w ++ [b] else w.drop 1 ++ [b]

/-- The window matches the LEAD value once it holds 8 bits, the first bit received read as bit 0 (R123). -/
def windowMatches (lead : Octet) (w : List Bool) : Bool := w == lineBits lead

/-- Octet alignment taken: the window holds the LEAD value's bits and whole octets are assembled from the next bit
(R123). -/
def Receiver.align (rx : Receiver) (lead : Octet) : Receiver :=
  { rx with phase := .aligned, window := lineBits lead }

/-- Bits taken in HUNTING, each shifted into the window, up to the one that completes the first match, at which octet
alignment is taken; with the bits behind that one, which belong to the octets assembled from then on (R123). -/
def Receiver.hunt (lead : Octet) : Receiver → List Bool → Receiver × List Bool
  | rx, [] => (rx, [])
  | rx, b :: bs =>
    let w := shiftWindow rx.window b
    if windowMatches lead w then (rx.align lead, bs)
    else Receiver.hunt lead { rx with window := w } bs

/-- Alignment given up at an octet that is not LEAD: the window holds that octet's bits (R123). -/
def Receiver.giveUp (rx : Receiver) (o : Octet) : Receiver :=
  { rx with phase := .hunting, window := lineBits o, octetBits := [] }

/-- The window emptied and an alignment given up, as while DCD is inactive in HUNTING or ALIGNED (R123). -/
def Receiver.loseCarrier (rx : Receiver) : Receiver :=
  match rx.phase with
  | .hunting | .aligned => { rx with phase := .hunting, window := [], octetBits := [] }
  | .off | .body | .ended => rx

/-- Lead detected: BODY with decoded count 0 and the running CRC at 0xFFFF (R124). DESIGN CHOICE (log 6): the window, of
which R124 says nothing, is emptied, and stays empty in BODY and ENDED. -/
def Receiver.enterBody (rx : Receiver) : Receiver :=
  { rx with
    phase := .body, window := [], octetBits := []
    decoded := 0, escapeOpen := false, crc := crcStart }

/-- The error kind of a BAD judgement (R127). -/
inductive BlockError where
  | invalidKind | lengthError | escapeError | crcError
deriving DecidableEq, Repr

/-- The judgement of a block (R127). GOOD hands over the kind, ADDRESS, CONTROL and the text or status octets. -/
inductive Judgement where
  | good (kind address control : Octet) (text : List Octet)
  | bad (error : BlockError)
deriving DecidableEq, Repr

/-- What one whole octet taken in BODY brings about, with the receiver it leaves: the block goes on, or it is judged (R125,
R127). -/
inductive Taken where
  | more (rx : Receiver)
  | judged (rx : Receiver) (j : Judgement)
deriving DecidableEq, Repr

/-- The judgement that an octet brings about, if any (R127). -/
def Taken.judgement? : Taken → Option Judgement
  | .more _ => none
  | .judged _ j => some j

/-- The block judged: the phase becomes ENDED (R127). -/
def Receiver.judge (rx : Receiver) (j : Judgement) : Taken := .judged { rx with phase := .ended } j

/-- The number of decoded octets in the body, once it is known: 3 for a kind without LENGTH, LENGTH + 4 otherwise
(R126). -/
def Receiver.bodyEnd (rx : Receiver) : Option Nat :=
  if kindHasLength rx.kind then rx.length.map (· + 4) else some 3

/-- A decoded body octet counted and taken into the running CRC (R125). -/
def Receiver.countBody (rx : Receiver) (v : Octet) : Receiver :=
  { rx with decoded := rx.decoded + 1, crc := crcOctet rx.crc v }

/-- A decoded CRC octet counted; it does not enter the running CRC (R122, R125). -/
def Receiver.countCrc (rx : Receiver) : Receiver := { rx with decoded := rx.decoded + 1 }

/-- One decoded octet handled by its place in the block (R125, R126). An octet that judges the block is decoded and counted
like any other; a KIND or a LENGTH that makes the block BAD is not kept. -/
def Receiver.decode (rx : Receiver) (testing : Bool) (v : Octet) : Taken :=
  match rx.decoded with
  | 0 =>
    if validKind testing v then .more { rx.countBody v with kind := v }
    else (rx.countBody v).judge (.bad .invalidKind)
  | 1 => .more { rx.countBody v with address := v }
  | 2 => .more { rx.countBody v with control := v }
  | n + 3 =>
    match rx.bodyEnd with
    | none =>
      if lengthAccepted rx.kind v then .more { rx.countBody v with length := some v.toNat }
      else (rx.countBody v).judge (.bad .lengthError)
    | some e =>
      if n + 3 < e then .more { rx.countBody v with assembly := rx.assembly ++ [v] }
      else if n + 3 = e then .more { rx.countCrc with crcHigh := v }
      else if rx.crcHigh = highOctet rx.crc ∧ v = lowOctet rx.crc then
        rx.countCrc.judge (.good rx.kind rx.address rx.control rx.assembly)
      else rx.countCrc.judge (.bad .crcError)

/-- The octet in assembly is complete, and the next one begins (R123). -/
def Receiver.endOctet (rx : Receiver) : Receiver := { rx with octetBits := [] }

/-- One whole octet taken in BODY (R125). LEAD octets before the first that is not LEAD are skipped (R124). An octet that
breaks an escape decodes nothing, and escape open is no after it: the last octet taken is then no unescaped PREFIX (R122).
That this holds of a PREFIX as well, in the second place of a pair, is DEDUCED (log 21). -/
def Receiver.take (rx : Receiver) (lead pre : Octet) (testing : Bool) (o : Octet) : Taken :=
  if rx.escapeOpen then
    if o = escaped lead then { rx with escapeOpen := false }.decode testing lead
    else if o = escaped pre then { rx with escapeOpen := false }.decode testing pre
    else { rx with escapeOpen := false }.judge (.bad .escapeError)
  else if o = lead then
    if rx.decoded = 0 then .more rx else rx.judge (.bad .escapeError)
  else if o = pre then .more { rx with escapeOpen := true }
  else rx.decode testing o

/-- A run of whole octets taken in BODY, up to the judgement if one is made (R125, R127). -/
def Receiver.takeAll (rx : Receiver) (lead pre : Octet) (testing : Bool) : List Octet → Taken
  | [] => .more rx
  | o :: os =>
    match rx.take lead pre testing o with
    | .more rx' => rx'.takeAll lead pre testing os
    | .judged rx' j => .judged rx' j

end Sys2Proof.Machine
end

