-- ==== Sys2Proof/Machine/Outcomes.lean ====
section
/-! DEFINITION. The Exchange Controller's outcomes (chapter 3): the liveness steps, the effect of each GOOD reply, of a
miss, of abandonment and of SENT, and the classification of a judged reply. -/

namespace Sys2Proof.Machine

/-! ### Liveness (R63 to R65) -/

/-- The GOOD step (R63): in service the miss count becomes 0, and SUSPECT becomes ACTIVE with RECOVERED. -/
def State.goodStep (s : State) (i : Slot) : State :=
  match (s.record i).state with
  | .inService .suspect =>
    (s.modRecord i fun r => { r with missCount := 0, state := .inService .active }).raise i
      .recovered
  | .inService _ => s.modRecord i fun r => { r with missCount := 0 }
  | .free | .held _ | .retiring => s

/-- Entry into LOST (R65): resync pending cleared and the pending text failed with cause LOST. -/
def State.enterLost (s : State) (i : Slot) : State :=
  let t := s.modRecord i fun r => { r with state := .inService .lost, resyncPending := false }
  if (s.record i).outboundText.isSome then t.failText i .lost else t

/-- The standing that a miss gives, from the new miss count and the thresholds as they stand (R64). -/
def missStanding (p : Params) (st : Standing) (misses : Nat) : Standing :=
  match st with
  | .lost => .lost
  | .staged => if p.lostThreshold.toNat ≤ misses then .lost else .staged
  | .suspect => if p.lostThreshold.toNat ≤ misses then .lost else .suspect
  | .active =>
    if p.lostThreshold.toNat ≤ misses then .lost
    else if p.suspectThreshold.toNat ≤ misses then .suspect
    else .active

/-- A miss counted: increased by 1, or left at 15 (R5, R64). -/
def countMiss (n : Nat) : Nat := min (n + 1) Config.missCountMax

/-- The miss step (R64, R65): in service the miss is counted and the standing moved; a move to SUSPECT raises SUSPECT,
and a move of an ACTIVE or SUSPECT record to LOST raises LOST. -/
def State.missStep (s : State) (i : Slot) : State :=
  match (s.record i).state with
  | .free | .held _ | .retiring => s
  | .inService st =>
    let n := countMiss (s.record i).missCount
    let t := s.modRecord i fun r => { r with missCount := n }
    match st, missStanding s.params st n with
    | .active, .suspect =>
      (t.modRecord i fun r => { r with state := .inService .suspect }).raise i .suspect
    | .active, .lost | .suspect, .lost => (t.enterLost i).raise i .lost
    | .staged, .lost => t.enterLost i
    | _, _ => t

/-! ### POLL outcomes (R66, R67) -/

/-- The quiet watch (R66): below its limit the quiet count increases, and QUIET is raised on reaching it. -/
def State.quietStep (s : State) (i : Slot) : State :=
  let r := s.record i
  match r.quietLimit with
  | none => s
  | some q =>
    if r.state.isInService = true ∧ r.quietCount < q.toNat then
      let t := s.modRecord i fun x => { x with quietCount := x.quietCount + 1 }
      if r.quietCount + 1 = q.toNat then t.raise i .quiet else t
    else s

/-- A POLL ends GOOD NIL (R66). -/
def State.goodNil (s : State) (i : Slot) : State := (s.goodStep i).quietStep i

/-- The quiet count set to 0 by a text reply, except in HELD (R67). -/
def State.quietReset (s : State) (i : Slot) : State :=
  if (s.record i).state.isInService then s.modRecord i fun r => { r with quietCount := 0 } else s

/-- A new inbound text stored behind any FULL buffer, with the record's inbound count, received count and in toggle
(R67, R90). -/
def State.storeInbound (s : State) (i : Slot) (address : Octet) (text : List Octet) : State :=
  let t := s.modRecord i fun r =>
    { r with
      inToggle := !r.inToggle
      receivedCount := r.receivedCount + 1
      inboundCount := r.inboundCount + 1 }
  { t with inbound := s.inbound ++ [{ slot := i, address := address, text := text }] }

/-- A POLL ends GOOD TEXT with sequence bit `sBit` (R67). -/
def State.goodText (s : State) (i : Slot) (address : Octet) (hSent sBit : Bool)
    (text : List Octet) : State :=
  if (s.record i).state = .retiring then s
  else
    let t := (s.goodStep i).quietReset i
    if hSent then t.raise i .protocol
    else if sBit = (s.record i).inToggle then t.storeInbound i address text
    else t

/-! ### TEXT outcomes (R55, R68 to R70) -/

/-- The follow-on set after a GOOD TEXT outcome: the record ACTIVE or SUSPECT and no stop requested (R55). -/
def State.setFollowOn (s : State) (i : Slot) : State :=
  if (s.record i).state.isVisited = true ∧ s.stopRequested = false then { s with followOn := some i }
  else s

/-- A retry counted (R69, R70). -/
def State.countRetry (s : State) (i : Slot) : State :=
  s.modRecord i fun r => { r with retryCount := r.retryCount + 1 }

/-- The refusal of a text by the station: NAK, or an ACK that delivers nothing (R69). -/
def State.refusedText (s : State) (i : Slot) : State :=
  if (s.record i).state = .retiring then s.freeText i
  else
    let t := (s.goodStep i).countRetry i
    if (t.record i).cancelRequested then t.failText i .cancelled
    else if t.params.retryLimit.toNat ≤ (t.record i).retryCount then t.failText i .retries
    else t.returnText i

/-- A TEXT ends GOOD NAK (R55, R69). -/
def State.goodNak (s : State) (i : Slot) : State := (s.refusedText i).setFollowOn i

/-- A delivering ACK: the out toggle flips, the delivery is counted, the text is freed and DELIVERED is raised (R68). -/
def State.deliverText (s : State) (i : Slot) : State :=
  ((((s.goodStep i).modRecord i fun r =>
    { r with outToggle := !r.outToggle, deliveredCount := r.deliveredCount + 1 }).freeText i).raise
      i .delivered)

/-- A TEXT ends GOOD ACK with acknowledge bit `aBit` (R55, R68). -/
def State.goodAck (s : State) (i : Slot) (aBit : Bool) : State :=
  if aBit = (s.record i).outToggle then s.goodNak i else (s.deliverText i).setFollowOn i

/-- Step 2 of a TEXT miss: the retry counted, and the text failed with resync pending, or returned (R70). -/
def State.retryText (s : State) (i : Slot) : State :=
  let t := s.countRetry i
  if (t.record i).cancelRequested then (t.failText i .cancelled).setResync i
  else if t.params.retryLimit.toNat ≤ (t.record i).retryCount then
    (t.failText i .retries).setResync i
  else t.returnText i

/-- A TEXT ends as a miss (R70). -/
def State.missText (s : State) (i : Slot) : State :=
  if (s.record i).state = .retiring then s.freeText i
  else
    let t := s.missStep i
    if (t.record i).state = .inService .lost ∧ (s.record i).state ≠ .inService .lost then t
    else t.retryText i

/-! ### SYNC outcomes (R72) -/

/-- The last status set, with STATUS raised if there was none or it differs (R72). -/
def State.setLastStatus (s : State) (i : Slot) (v : Octet) : State :=
  let t := s.modRecord i fun r => { r with lastStatus := some v }
  if (s.record i).lastStatus = some v then t else t.raise i .status

/-- A SYNC ends GOOD STATUS (R63, R72). -/
def State.goodStatus (s : State) (i : Slot) (v : Octet) : State :=
  let t := (((s.goodStep i).modRecord i fun r =>
    { r with outToggle := false, inToggle := false, resyncPending := false }).setLastStatus i v)
  match (s.record i).state with
  | .inService .staged =>
    (t.modRecord i fun r => { r with state := .inService .active }).raise i .admitted
  | .inService .lost =>
    (t.modRecord i fun r => { r with state := .inService .active }).raise i .recovered
  | .inService .active | .inService .suspect | .free | .held _ | .retiring => t

/-! ### Misses, abandonment and SENT (R61, R64, R70, R74, R75) -/

/-- A miss, NO REPLY or BAD REPLY, applied by the exchange kind (R61, R64, R67, R70, R73). A GROUP exchange awaits no
reply. -/
def State.applyMiss (s : State) (x : Exchange) : State :=
  match x with
  | .poll i => s.missStep i
  | .text i _ => s.missText i
  | .sync i => s.missStep i
  | .group _ => s

/-- A valid station block of a kind the exchange does not expect: PROTOCOL, and a miss (R61). -/
def State.unexpectedKind (s : State) (x : Exchange) : State :=
  match x.slot? with
  | some i => (s.raise i .protocol).applyMiss x
  | none => s.applyMiss x

/-- An ABANDONED TEXT exchange (R75). -/
def State.abandonText (s : State) (i : Slot) (p : Point) : State :=
  if (s.record i).state = .retiring then s.freeText i
  else
    let t := s.returnText i
    let u := if p = .whollySent then t.setResync i else t
    if (u.record i).cancelRequested then
      let v := if (u.record i).retryCount = 0 then u else u.setResync i
      v.failText i .cancelled
    else u

/-- An ABANDONED exchange (R75). A RETIRING record's buffer is freed whatever the kind (R62). -/
def State.applyAbandoned (s : State) (c : Context) : State :=
  match c.exchange with
  | .text i _ => s.abandonText i c.point
  | .poll i | .sync i => if (s.record i).state = .retiring then s.freeText i else s
  | .group _ => s

/-- A GROUP exchange that ends SENT: the buffer's repeats remaining decrease, and at 0 it leaves the queue and is freed
(R74). -/
def State.applySent (s : State) (b : BufferNo) : State :=
  match s.buffers[b.val] with
  | .group o t n =>
    if n ≤ 1 then ({ s with groupQueue := s.groupQueue.filter (· != b) }).freeBuffer b
    else { s with buffers := s.buffers.set b.val (.group o t (n - 1)) b.isLt }
  | .free | .filled _ _ | .inFlight _ _ => s

/-! ### Classification and the end of an exchange (R52, R60, R61) -/

/-- The outcome of a block judged GOOD, by the address and the kind the context expects (R60, R61). -/
def State.applyGood (s : State) (c : Context) (kind address control : Octet)
    (text : List Octet) : State :=
  if address ≠ c.address then s.applyMiss c.exchange
  else
    match c.exchange with
    | .poll i =>
      if kind = kindNil then s.goodNil i
      else if kind = kindText then s.goodText i c.address c.hSent (control.getLsbD 0) text
      else s.unexpectedKind c.exchange
    | .text i _ =>
      if kind = kindAck then s.goodAck i (control.getLsbD 1)
      else if kind = kindNak then s.goodNak i
      else s.unexpectedKind c.exchange
    | .sync i =>
      if kind = kindStatus then s.goodStatus i (text.getD 0 0)
      else s.unexpectedKind c.exchange
    | .group _ => s

/-- A judged reply classified and applied (R60, R61, R127). -/
def State.applyJudgement (s : State) (c : Context) (j : Judgement) : State :=
  match j with
  | .good k a t x => s.applyGood c k a t x
  | .bad _ => s.applyMiss c.exchange

/-- An exchange cut by the line or the host: the ABANDONED outcome applied and the context ended (R52, R75). -/
def State.abandonExchange (s : State) : State :=
  match s.context with
  | none => s
  | some c => (s.applyAbandoned c).endContext c.exchange

/-- An exchange that ends as a miss without a block, NO REPLY or a fall of DCD: the outcome applied and the context
ended (R52, R61). -/
def State.missExchange (s : State) : State :=
  match s.context with
  | none => s
  | some c => (s.applyMiss c.exchange).endContext c.exchange

end Sys2Proof.Machine
end

