-- ==== Sys2Proof/Machine/Line.lean ====
section
/-! DEFINITION. The line commands (7.7, 7.8), the modem inputs (7.3), the framer's two reported points (R120) and the
timers' expiries (7.4). -/

namespace Sys2Proof.Machine

/-! ### START LINE, STOP LINE, ABORT LINE (R146, R147, R149) -/

/-- The line set running (R146): GAP entered, the probe timer restarted, the probe pass PENDING with its cursor at 0. -/
def State.startLine (s : State) : State :=
  { s.enterGap with
    probeTimer := startTimer s.params.probePeriod, probePass := .pending, probeCursor := 0 }

/-- START LINE's own rule (R146). -/
def startLine (_args : List Octet) (s : State) : Completion :=
  match s.engine with
  | .stopped | .fault => answer s.startLine .ok []
  | .gap | .ready | .raising | .sending | .listening | .receiving | .settling | .testing =>
    refuse s .lineRunning

/-- START_LINE (R146). -/
def execStartLine (s : State) : Host.Outcome State Fault Refusal :=
  .next (s.complete .startLine startLine)

/-- STOP LINE's effect by engine state (R147). It does not reach TESTING, where no other command is in progress (R145).
-/
def State.stopLine (s : State) : State :=
  match s.engine with
  | .stopped | .gap | .ready | .fault => s.enterStopped true
  | .raising | .sending | .listening | .receiving | .settling => { s with stopRequested := true }
  | .testing => s

/-- STOP LINE's own rule (R147). -/
def stopLine (_args : List Octet) (s : State) : Completion := answer s.stopLine .ok []

/-- STOP_LINE (R147). -/
def execStopLine (s : State) : Host.Outcome State Fault Refusal :=
  .next (s.complete .stopLine stopLine)

/-- ABORT LINE's own rule (R149): an exchange is ABANDONED, and the engine enters STOPPED at once with LINE STOPPED. -/
def abortLine (_args : List Octet) (s : State) : Completion :=
  answer (s.abandonExchange.enterStopped true) .ok []

/-- ABORT_LINE (R149). -/
def execAbortLine (s : State) : Host.Outcome State Fault Refusal :=
  .next (s.complete .abortLine abortLine)

/-! ### LINE TEST (R150, R151) -/

/-- The test begun (R150): the TEST block built from the staging text, the receiver hunting the loop, the engine in
TESTING. The command stays in progress until the test ends. -/
def State.beginTest (s : State) : State :=
  { s with
    engine := .testing
    framer := some (buildFrame s.params kindTest 0 (controlOctet false false false) (some s.staging))
    receiver := Receiver.startHunt
    lineTest := some { text := s.staging, verdict := none } }

/-- The result code of a judgement of the TEST block (R151). -/
def Verdict.result : Verdict → ResultCode
  | .pass => .pass
  | .mismatch => .mismatch

/-- The end of a test (R151): STOPPED without LINE STOPPED, and LINE TEST completes with its result code. -/
def State.endTest (s : State) (c : ResultCode) : State := (s.enterStopped false).finish 1 c []

/-- The checks of LINE TEST after acceptance, and the test begun if they pass (R145, R150). The event occurs once for an
accepted LINE TEST: not while its test runs (log 1). -/
def State.lineTestEvent (s : State) : State :=
  match s.command with
  | none => s
  | some c =>
    if c.code = CommandName.lineTest.row.code ∧ s.lineTest = none then
      if c.overflow = true ∨ c.args.length ≠ CommandName.lineTest.row.args then
        s.finish 1 .arguments []
      else if s.engine ≠ .stopped then s.finish 1 .lineRunning []
      else if s.staging = [] then s.finish 1 .length []
      else s.beginTest
    else s

/-- LINE_TEST (R150). -/
def execLineTest (s : State) : Host.Outcome State Fault Refusal := .next s.lineTestEvent

/-! ### CTS and DCD (R133, R137, R139, R141, R142) -/

/-- The line change flag set in every engine state but STOPPED (R133). -/
def State.noteLineChange (s : State) : State :=
  if s.engine = .stopped then s else { s with lineChange := true }

/-- CTS takes a new level: SENDING from RAISING when it becomes active, a CTS loss in SENDING when it becomes inactive,
nothing else but the flag (R133, R137, R139). -/
def State.ctsChanged (s : State) (active : Bool) : State :=
  let t := { s with cts := active }.noteLineChange
  match s.engine, active with
  | .raising, true => { t with engine := .sending, ctsTimer := none }
  | .sending, false => { t with ctsLoss := true }
  | _, _ => t

/-- CTS_CHANGE: an event of the engine where the level differs from the one held (R133, log 10). -/
def execCtsChange (active : Bool) (s : State) : Host.Outcome State Fault Refusal :=
  .next (if active = s.cts then s else s.ctsChanged active)

/-- DCD takes a new level: a fall empties the window in LISTENING, ends the exchange BAD REPLY in RECEIVING and ends
settling in SETTLING; nothing else but the flag (R123, R128, R133, R141, R142). -/
def State.dcdChanged (s : State) (active : Bool) : State :=
  let t := { s with dcd := active }.noteLineChange
  match s.engine, active with
  | .listening, false => { t with receiver := t.receiver.loseCarrier }
  | .receiving, false => t.missExchange.enterSettling
  | .settling, false => { t with settleTimer := none }.endTurn
  | _, _ => t

/-- DCD_CHANGE: an event of the engine where the level differs from the one held (R133, log 10). -/
def execDcdChange (active : Bool) (s : State) : Host.Outcome State Fault Refusal :=
  .next (if active = s.dcd then s else s.dcdChanged active)

/-- The end of the octet in progress after a CTS loss: the exchange ABANDONED, FAULT with code CTS LOST (R139, R143). -/
def State.ctsLostEvent (s : State) : State :=
  if s.engine = .sending ∧ s.ctsLoss = true then s.abandonExchange.enterFault .ctsLost else s

/-- CTS_LOST (R139). -/
def execCtsLost (s : State) : Host.Outcome State Fault Refusal := .next s.ctsLostEvent

/-! ### The framer's points (R120, R138) -/

/-- The last line octet of the CRC has gone out: the point reached becomes WHOLLY SENT (R51, R120). The event occurs
while a block is being sent and its CRC has not yet gone out. -/
def State.lastCrcOctetSent (s : State) : State :=
  match s.framer with
  | none => s
  | some f =>
    if (s.engine = .sending ∨ s.engine = .testing) ∧ f.sent < f.crcEnd then
      { s with
        framer := some { f with sent := f.crcEnd }
        context := s.context.map fun c => { c with point := .whollySent } }
    else s

/-- LAST_CRC_OCTET_SENT (R120). -/
def execLastCrcOctetSent (s : State) : Host.Outcome State Fault Refusal := .next s.lastCrcOctetSent

/-- The last pad of an exchange's block has ended (R138): a GROUP exchange ends SENT, the others enter LISTENING with the
reply timer started and the receiver hunting. -/
def State.turnRound (s : State) (c : Context) : State :=
  match c.exchange with
  | .group b => ((s.applySent b).endContext c.exchange).endTurn
  | .poll _ | .text _ _ | .sync _ =>
    { s with
      engine := .listening
      framer := none
      receiver := Receiver.startHunt
      replyTimer := startTimer s.params.replyTimeout.toNat }

/-- The last pad of a TEST block has ended (R151): the test ends if it has been judged, and the reply timer starts if no
lead has been detected. -/
def State.testSent (s : State) (l : LineTest) : State :=
  let t := { s with framer := none }
  match l.verdict with
  | some v => t.endTest v.result
  | none =>
    match s.receiver.phase with
    | .hunting | .aligned => { t with replyTimer := startTimer s.params.replyTimeout.toNat }
    | .off | .body | .ended => t

/-- The last bit of the last pad has gone out (R120). The event occurs while a block's pads are being sent and no CTS
loss has been taken, for a loss makes the end of that pad the cut (R139). -/
def State.lastPadOctetEnded (s : State) : State :=
  match s.framer with
  | none => s
  | some f =>
    if f.crcEnd ≤ f.sent then
      match s.engine, s.context, s.lineTest with
      | .sending, some c, _ => if s.ctsLoss then s else s.turnRound c
      | .testing, _, some l => s.testSent l
      | _, _, _ => s
    else s

/-- LAST_PAD_OCTET_ENDED (R120, R138, R151). -/
def execLastPadOctetEnded (s : State) : Host.Outcome State Fault Refusal :=
  .next s.lastPadOctetEnded

/-! ### Timer expiries (R38, R135, R137, R140, R142, R151) -/

/-- The gap timer expires and the engine enters READY (R135). -/
def State.gapTimerExpiry (s : State) : State :=
  if s.engine = .gap ∧ s.gapTimer.isSome = true then { s with engine := .ready, gapTimer := none }
  else s

/-- GAP_TIMER_EXPIRY (R135). -/
def execGapTimerExpiry (s : State) : Host.Outcome State Fault Refusal := .next s.gapTimerExpiry

/-- The CTS timer expires in RAISING: ABANDONED, FAULT with code CTS TIMEOUT (R137, R143). -/
def State.ctsTimerExpiry (s : State) : State :=
  if s.engine = .raising ∧ s.ctsTimer.isSome = true then s.abandonExchange.enterFault .ctsTimeout
  else s

/-- CTS_TIMER_EXPIRY (R137). -/
def execCtsTimerExpiry (s : State) : Host.Outcome State Fault Refusal := .next s.ctsTimerExpiry

/-- The reply timer expires without a lead: NO REPLY in LISTENING, NO SIGNAL in TESTING (R140, R151). -/
def State.replyTimerExpiry (s : State) : State :=
  if s.replyTimer.isSome then
    match s.engine with
    | .listening => { s.missExchange with replyTimer := none }.endTurn
    | .testing => s.endTest .noSignal
    | .stopped | .gap | .ready | .raising | .sending | .receiving | .settling | .fault => s
  else s

/-- REPLY_TIMER_EXPIRY (R140, R151). -/
def execReplyTimerExpiry (s : State) : Host.Outcome State Fault Refusal := .next s.replyTimerExpiry

/-- The settle timer expires with DCD active: FAULT with code CARRIER STUCK (R142, R143). -/
def State.settleTimerExpiry (s : State) : State :=
  if s.engine = .settling ∧ s.settleTimer.isSome = true ∧ s.dcd = true then
    s.enterFault .carrierStuck
  else s

/-- SETTLE_TIMER_EXPIRY (R142). -/
def execSettleTimerExpiry (s : State) : Host.Outcome State Fault Refusal :=
  .next s.settleTimerExpiry

/-- The probe timer expires: a new period begins at once, and a NONE pass becomes PENDING with its cursor at 0 (R38,
R39). -/
def State.probeTimerExpiry (s : State) : State :=
  if s.probeTimer.isSome then
    let t := { s with probeTimer := startTimer s.params.probePeriod }
    match s.probePass with
    | .none => { t with probePass := .pending, probeCursor := 0 }
    | .pending | .inProgress => t
  else s

/-- PROBE_TIMER_EXPIRY (R38). -/
def execProbeTimerExpiry (s : State) : Host.Outcome State Fault Refusal := .next s.probeTimerExpiry

end Sys2Proof.Machine
end

