-- ==== Sys2Proof/Machine/ParameterFile.lean ====
section
/-! DEFINITION. The Parameter File (chapter 8): the index and data ports and the judgement of every write. -/

namespace Sys2Proof.Machine

/-- The conditions that a LEAD and PREFIX pair meets (R117). -/
def legalPair (lead pre : Octet) : Bool :=
  lead != pre && lead != pre ^^^ 0x80 && lead != 0x00 && lead != 0xFF && pre != 0xFF

/-- The value lies within a range of counts. -/
def inRange (lo hi : Nat) (v : Octet) : Bool := lo ≤ v.toNat && v.toNat ≤ hi

/-- The divisor that a write of its high octet forms with the held low octet (R161). -/
def Params.formedDivisor (p : Params) (high : Octet) : Word16 := high ++ p.divisorLowHeld

/-- A write of a format parameter, indexes 0x00..0x06, judged on its value (R159 to R161). -/
def Params.writeFormat (p : Params) (i v : Octet) : Option Params :=
  if i = 0x00 then
    if legalPair v p.prefixOctet then some { p with leadOctet := v } else none
  else if i = 0x01 then
    if legalPair p.leadOctet v then some { p with prefixOctet := v } else none
  else if i = 0x02 then
    if inRange 2 4 v then some { p with leadCount := v } else none
  else if i = 0x03 then
    if inRange 1 4 v then some { p with padCount := v } else none
  else if i = 0x04 then
    if v = 0 then some { p with clockSource := .modem }
    else if v = 1 then some { p with clockSource := .internal }
    else none
  else if i = 0x05 then some { p with divisorLowHeld := v }
  else if i = 0x06 then
    if Config.divisorMin ≤ (p.formedDivisor v).toNat then
      some { p with divisor := p.formedDivisor v }
    else none
  else none

/-- A write of a timing or threshold parameter, indexes 0x07..0x0E, judged on its value (R162 to R164); every index above
is refused (R157, R165). -/
def Params.writeTimed (p : Params) (i v : Octet) : Option Params :=
  if i = 0x07 then if inRange 2 255 v then some { p with replyTimeout := v } else none
  else if i = 0x08 then if inRange 1 255 v then some { p with ctsTimeout := v } else none
  else if i = 0x09 then if inRange 0 63 v then some { p with turnaroundGap := v } else none
  else if i = 0x0A then if inRange 1 255 v then some { p with probeInterval := v } else none
  else if i = 0x0B then
    if inRange 1 14 v && decide (v.toNat < p.lostThreshold.toNat) then
      some { p with suspectThreshold := v }
    else none
  else if i = 0x0C then
    if inRange 2 15 v && decide (p.suspectThreshold.toNat < v.toNat) then
      some { p with lostThreshold := v }
    else none
  else if i = 0x0D then if inRange 1 15 v then some { p with retryLimit := v } else none
  else if i = 0x0E then if inRange 1 3 v then some { p with groupRepeat := v } else none
  else none

/-- A PARAMETER DATA write judged: the parameters it leaves if it is taken, none if it is refused (R157, R158). -/
def Params.write (p : Params) (e : EngineState) (i v : Octet) : Option Params :=
  if i.toNat ≤ 0x06 then if e = .stopped then p.writeFormat i v else none
  else p.writeTimed i v

/-- PARAMETER_INDEX_WRITE (R155). -/
def execParameterIndexWrite (o : Octet) (s : State) : Host.Outcome State Fault Refusal :=
  .next (s.portWrite { s with paramIndex := o })

/-- PARAMETER_DATA_READ: the value at the index, which then advances and wraps (R156). -/
def execParameterDataRead (s : State) : Host.Outcome State Fault Refusal :=
  .next (s.portReadStep (s.params.readAt s.paramIndex) { s with paramIndex := s.paramIndex + 1 })

/-- PARAMETER_DATA_WRITE: taken with PARAMETER REFUSED cleared, or refused with it set; the index advances either way
(R157). -/
def execParameterDataWrite (o : Octet) (s : State) : Host.Outcome State Fault Refusal :=
  .next (s.portWrite
    (match s.params.write s.engine s.paramIndex o with
      | some p => { s with params := p, paramRefused := false, paramIndex := s.paramIndex + 1 }
      | none => { s with paramRefused := true, paramIndex := s.paramIndex + 1 }))

end Sys2Proof.Machine
end

