-- ==== Sys2Proof/Machine/ReceiverEvents.lean ====
section
/-! DEFINITION. The receiver's events (6.6): alignment taken and given up, lead detected, an octet decoded, a block
judged. In TESTING the octets come round the internal loop and DCD plays no part (R129). -/

namespace Sys2Proof.Machine

/-- The receiver hunts: in LISTENING while DCD is active, and in TESTING (R123, R129). -/
def State.hunts (s : State) : Bool :=
  (s.engine == .listening && s.dcd) || s.engine == .testing

/-- The receiver takes a block's octets: in RECEIVING and in TESTING (R125, R129). -/
def State.takesBody (s : State) : Bool := s.engine == .receiving || s.engine == .testing

/-- Octet alignment taken (R123): in HUNTING the bits are shifted into the window up to its first match with LEAD, at which
alignment is taken. Bits without a match leave the receiver in HUNTING with the window they give. Bits behind the match are
not this event's: the row of the octet they belong to carries them (log 11). -/
def State.octetAlignmentTaken (s : State) (bits : List Bool) : State :=
  if s.hunts = true ∧ s.receiver.phase = .hunting then
    { s with receiver := (s.receiver.hunt s.params.leadOctet bits).1 }
  else s

/-- OCTET_ALIGNMENT_TAKEN (R123). -/
def execOctetAlignmentTaken (bits : List Bool) (s : State) : Host.Outcome State Fault Refusal :=
  .next (s.octetAlignmentTaken bits)

/-- Alignment given up (R123): in ALIGNED the first whole octet is not LEAD. -/
def State.alignmentGivenUp (s : State) (o : Octet) : State :=
  if s.hunts = true ∧ s.receiver.phase = .aligned ∧ o ≠ s.params.leadOctet then
    { s with receiver := s.receiver.giveUp o }
  else s

/-- ALIGNMENT_GIVEN_UP (R123). -/
def execAlignmentGivenUp (o : Octet) (s : State) : Host.Outcome State Fault Refusal :=
  .next (s.alignmentGivenUp o)

/-- Lead detected (R124, R140): the reply timer is stopped and the body begins; in LISTENING the engine enters RECEIVING.
-/
def State.leadDetected (s : State) : State :=
  if s.hunts = true ∧ s.receiver.phase = .aligned then
    { s with
      receiver := s.receiver.enterBody
      replyTimer := none
      engine := if s.engine = .listening then .receiving else s.engine }
  else s

/-- LEAD_DETECTED (R124). -/
def execLeadDetected (s : State) : Host.Outcome State Fault Refusal := .next s.leadDetected

/-- What the receiver makes of one whole octet taken in BODY with the LEAD and PREFIX in use (R117, R125). The octet in
assembly is then complete (R123). -/
def State.takeOctet (s : State) (o : Octet) : Taken :=
  s.receiver.endOctet.take s.params.leadOctet s.params.prefixOctet (s.engine == .testing) o

/-- An octet taken in BODY that does not judge the block (R124, R125). -/
def State.bodyOctetDecoded (s : State) (o : Octet) : State :=
  if s.takesBody = true ∧ s.receiver.phase = .body then
    match s.takeOctet o with
    | .more rx => { s with receiver := rx }
    | .judged _ _ => s
  else s

/-- BODY_OCTET_DECODED (R125). -/
def execBodyOctetDecoded (o : Octet) (s : State) : Host.Outcome State Fault Refusal :=
  .next (s.bodyOctetDecoded o)

/-- The result that a judgement fixes for a LINE TEST: PASS for a GOOD block with address 0x00 and the text sent (R151).
-/
def testVerdict (l : LineTest) : Judgement → Verdict
  | .good _ a _ t => if a = 0 ∧ t = l.text then .pass else .mismatch
  | .bad _ => .mismatch

/-- A TEST block judged (R151): the result is fixed, and the test ends now if the last pad has ended. Until then the
receiver stays as the judging octet left it, in ENDED (R122, R125, R127). -/
def State.testJudged (s : State) (l : LineTest) (rx : Receiver) (j : Judgement) : State :=
  let v := testVerdict l j
  match s.framer with
  | none => s.endTest v.result
  | some _ =>
    { s with receiver := rx, lineTest := some { l with verdict := some v } }

/-- A reply judged (R127, R141): the outcome is applied, the context ends, and the engine enters SETTLING, in which the
receiver is OFF. -/
def State.replyJudged (s : State) (c : Context) (j : Judgement) : State :=
  ((s.applyJudgement c j).endContext c.exchange).enterSettling

/-- An octet taken in BODY that judges the block (R127). -/
def State.blockJudged (s : State) (o : Octet) : State :=
  if s.takesBody = true ∧ s.receiver.phase = .body then
    match s.takeOctet o with
    | .more _ => s
    | .judged rx j =>
      match s.engine, s.context, s.lineTest with
      | .receiving, some c, _ => s.replyJudged c j
      | .testing, _, some l => s.testJudged l rx j
      | _, _, _ => s
  else s

/-- BLOCK_JUDGED (R127). -/
def execBlockJudged (o : Octet) (s : State) : Host.Outcome State Fault Refusal :=
  .next (s.blockJudged o)

end Sys2Proof.Machine
end

