-- ==== Sys2Proof/Machine/Ring.lean ====
section
/-! DEFINITION. The Poll Ring and the urgent list at the host port (2.1, 2.2): insertion, removal, the retire purge, the
reads and POLL NOW. -/

namespace Sys2Proof.Machine

/-! ### Ring edits and the cursor (R29 to R31) -/

/-- The cursor after an insertion at position `p` into a ring of length `n` (R29). -/
def cursorAfterInsert (n p cursor : Nat) : Nat := if n ≠ 0 ∧ p ≤ cursor then cursor + 1 else cursor

/-- The cursor after the removal of the entry at position `p` that leaves a ring of length `n` (R30). -/
def cursorAfterRemove (n p cursor : Nat) : Nat :=
  if n = 0 then 0
  else if p < cursor then cursor - 1
  else if p = cursor ∧ cursor = n then 0
  else cursor

/-- The entry at a position removed from a ring and its cursor (R30). -/
def removeEntry (rc : List Slot × Nat) (p : Nat) : List Slot × Nat :=
  (rc.1.eraseIdx p, cursorAfterRemove (rc.1.length - 1) p rc.2)

/-- Every entry naming the slot at a position below `k` removed, from the highest position down (R31). -/
def purgeEntries (i : Slot) (rc : List Slot × Nat) : Nat → List Slot × Nat
  | 0 => rc
  | k + 1 => purgeEntries i (if rc.1[k]? = some i then removeEntry rc k else rc) k

/-- The retire purge: every ring entry naming the slot removed, and its ring count 0 (R21, R31). -/
def State.purgeRing (s : State) (i : Slot) : State :=
  let rc := purgeEntries i (s.ring, s.ringCursor) s.ring.length
  let t := s.modRecord i fun r => { r with ringCount := 0 }
  { t with ring := rc.1, ringCursor := rc.2 }

/-- RING INSERT's own rule (R29). -/
def ringInsert (args : List Octet) (s : State) : Completion :=
  let p := (argument args 0).toNat
  withSlot (argument args 1) s fun i =>
    match (s.record i).state with
    | .free | .retiring => refuse s .wrongState
    | .inService _ | .held _ =>
      if s.ring.length < p then refuse s .badPosition
      else if Config.ringCapacity ≤ s.ring.length then refuse s .ringFull
      else if Config.ringEntriesPerSlot ≤ (s.record i).ringCount then refuse s .slotLimit
      else
        let t := s.modRecord i fun r => { r with ringCount := r.ringCount + 1 }
        answer
          { t with
            ring := s.ring.take p ++ i :: s.ring.drop p
            ringCursor := cursorAfterInsert s.ring.length p s.ringCursor } .ok []

/-- RING_INSERT (R29). -/
def execRingInsert (s : State) : Host.Outcome State Fault Refusal :=
  .next (s.complete .ringInsert ringInsert)

/-- RING REMOVE's own rule (R30). -/
def ringRemove (args : List Octet) (s : State) : Completion :=
  let p := (argument args 0).toNat
  match s.ring[p]? with
  | none => refuse s .badPosition
  | some i =>
    let rc := removeEntry (s.ring, s.ringCursor) p
    let t := s.modRecord i fun r => { r with ringCount := r.ringCount - 1 }
    answer { t with ring := rc.1, ringCursor := rc.2 } .ok [slotOctet i]

/-- RING_REMOVE (R30). -/
def execRingRemove (s : State) : Host.Outcome State Fault Refusal :=
  .next (s.complete .ringRemove ringRemove)

/-! ### Ring reads (R32) -/

/-- RING READ's own rule (R32). -/
def ringRead (args : List Octet) (s : State) : Completion :=
  match s.ring[(argument args 0).toNat]? with
  | none => refuse s .badPosition
  | some i => answer s .ok [slotOctet i]

/-- RING_READ (R32). -/
def execRingRead (s : State) : Host.Outcome State Fault Refusal :=
  .next (s.complete .ringRead ringRead)

/-- RING STATUS's own rule (R32). -/
def ringStatus (_args : List Octet) (s : State) : Completion :=
  answer s .ok
    [octetOfNat s.ring.length, octetOfNat s.ringCursor, octetOfNat s.urgent.length,
     s.probePass.code]

/-- RING_STATUS (R32). -/
def execRingStatus (s : State) : Host.Outcome State Fault Refusal :=
  .next (s.complete .ringStatus ringStatus)

/-! ### POLL NOW (R36) -/

/-- POLL NOW's own rule (R36). -/
def pollNow (args : List Octet) (s : State) : Completion :=
  withSlot (argument args 0) s fun i =>
    match (s.record i).state with
    | .free | .held _ | .retiring => refuse s .wrongState
    | .inService _ =>
      if s.urgent.contains i then refuse s .already
      else if Config.urgentCapacity ≤ s.urgent.length then refuse s .urgentFull
      else answer { s with urgent := s.urgent ++ [i] } .ok []

/-- POLL_NOW (R36). -/
def execPollNow (s : State) : Host.Outcome State Fault Refusal :=
  .next (s.complete .pollNow pollNow)

end Sys2Proof.Machine
end

