-- ==== Sys2Proof/Machine/Selection.lean ====
section
/-! DEFINITION. The Poll Scheduler's selection (2.4) and the exchange it begins (R51, R56 to R59, R136). -/

namespace Sys2Proof.Machine

/-! ### The five sources (R44 to R48) -/

/-- What a source gives at a selection: the scheduler's state as the source leaves it, and the exchange it offers, if
any. -/
structure Offer where
  state : State
  exchange : Option Exchange

/-- A source passed over: the selection continues with the next one, on the state the first left (R44). -/
def Offer.orElse (a : Offer) (next : State → Offer) : Offer :=
  match a.exchange with
  | some _ => a
  | none => next a.state

/-- The first exchange of a visit: SYNC if resync pending is set, TEXT if the outbound text is FILLED, POLL otherwise
(R46, R47, R54). -/
def State.visitExchange (s : State) (i : Slot) : Exchange :=
  if (s.record i).resyncPending then .sync i
  else
    match (s.record i).outboundText with
    | some b => if s.textFilled i then .text i b else .poll i
    | none => .poll i

/-- Source 1, the follow-on, made absent in the same event (R45). -/
def State.offerFollowOn (s : State) : Offer :=
  match s.followOn with
  | none => { state := s, exchange := none }
  | some i =>
    let t := { s with followOn := none }
    if (s.record i).state.isVisited = true ∧ (s.record i).resyncPending = false then
      { state := t, exchange := some (.poll i) }
    else { state := t, exchange := none }

/-- Source 2, the urgent list, whose head is taken off (R47). A head in no state of R47's table, which no run reaches
(R34), offers nothing (log 14). -/
def State.offerUrgent (s : State) : Offer :=
  match s.urgent with
  | [] => { state := s, exchange := none }
  | i :: rest =>
    let t := { s with urgent := rest }
    if (s.record i).state.isVisited then { state := t, exchange := some (s.visitExchange i) }
    else if (s.record i).state.isProbed then { state := t, exchange := some (.sync i) }
    else { state := t, exchange := none }

/-- Source 3, the group queue, whose head stays (R48). -/
def State.offerGroup (s : State) : Offer :=
  match s.groupQueue with
  | [] => { state := s, exchange := none }
  | b :: _ => { state := s, exchange := some (.group b) }

/-- The lowest STAGED or LOST slot at or above a cursor (R40). -/
def State.nextProbed (s : State) (cursor : Nat) : Option Slot :=
  (List.finRange Config.slots).find? fun i => cursor ≤ i.val && (s.record i).state.isProbed

/-- Source 4, a PENDING or IN PROGRESS probe pass, which ends when no slot is left for it (R40). -/
def State.offerProbe (s : State) : Offer :=
  match s.probePass with
  | .none => { state := s, exchange := none }
  | .pending | .inProgress =>
    match s.nextProbed s.probeCursor with
    | some i =>
      { state := { s with probePass := .inProgress, probeCursor := i.val + 1 }
        exchange := some (.sync i) }
    | none => { state := { s with probePass := .none, probeCursor := 0 }, exchange := none }

/-- The first of at most `fuel` ring entries, from a position onward and wrapping past the end, whose record is ACTIVE or
SUSPECT: its position and its slot (R46). -/
def State.nextVisited (s : State) (p : Nat) : Nat → Option (Nat × Slot)
  | 0 => none
  | fuel + 1 =>
    match s.ring[p]? with
    | none => none
    | some i =>
      if (s.record i).state.isVisited then some (p, i)
      else s.nextVisited ((p + 1) % s.ring.length) fuel

/-- Source 5, the Poll Ring: the cursor moves past the entry taken (R46). -/
def State.offerRing (s : State) : Offer :=
  match s.nextVisited s.ringCursor s.ring.length with
  | none => { state := s, exchange := none }
  | some (p, i) =>
    { state := { s with ringCursor := (p + 1) % s.ring.length }
      exchange := some (s.visitExchange i) }

/-- The five sources examined in order (R44). -/
def State.choose (s : State) : Offer :=
  ((((s.offerFollowOn.orElse State.offerUrgent).orElse State.offerGroup).orElse
    State.offerProbe).orElse State.offerRing)

/-- Whether a source is selectable (R42). -/
def State.selectable (s : State) : Bool :=
  s.followOn.isSome || !s.urgent.isEmpty || !s.groupQueue.isEmpty || s.probePass != .none ||
    s.ring.any fun i => (s.record i).state.isVisited

/-! ### Composing the block (R51, R56 to R59, R119) -/

/-- What an outbound buffer holds: its text (R79). -/
def OutBuffer.text : OutBuffer → List Octet
  | .free => []
  | .filled _ t => t
  | .inFlight _ t => t
  | .group _ t _ => t

/-- The group address that owns a GROUP buffer (R79). -/
def OutBuffer.groupAddress : OutBuffer → Octet
  | .group a _ _ => a
  | .free | .filled _ _ | .inFlight _ _ => 0

/-- A buffer selected for a TEXT exchange: from FILLED to IN FLIGHT (R57). -/
def OutBuffer.takeFlight : OutBuffer → OutBuffer
  | .filled o t => .inFlight o t
  | .free => .free
  | .inFlight o t => .inFlight o t
  | .group a t n => .group a t n

/-- The context created at selection, every field filled then (R51, R56 to R59). -/
def State.composeContext (s : State) (x : Exchange) : Context :=
  match x with
  | .poll i =>
    { exchange := x, address := (s.record i).address
      sSent := false, aSent := (s.record i).inToggle
      hSent := decide (Config.inboundCapacity ≤ s.inbound.length), point := .notSent }
  | .text i _ =>
    { exchange := x, address := (s.record i).address
      sSent := (s.record i).outToggle, aSent := (s.record i).inToggle, hSent := false
      point := .notSent }
  | .sync i =>
    { exchange := x, address := (s.record i).address
      sSent := false, aSent := false, hSent := false, point := .notSent }
  | .group b =>
    { exchange := x, address := s.buffers[b.val].groupAddress
      sSent := false, aSent := false, hSent := false, point := .notSent }

/-- The KIND code of an exchange's block (R113). -/
def Exchange.kindCode : Exchange → Octet
  | .poll _ => kindPoll
  | .text _ _ => kindMasterText
  | .sync _ => kindSync
  | .group _ => kindGroup

/-- The text an exchange's block carries (R57, R59). -/
def State.exchangeText (s : State) (x : Exchange) : Option (List Octet) :=
  match x with
  | .poll _ | .sync _ => none
  | .text _ b => some s.buffers[b.val].text
  | .group b => some s.buffers[b.val].text

/-- The block the framer builds for an exchange (R119). -/
def State.composeFrame (s : State) (x : Exchange) : Frame :=
  let c := s.composeContext x
  buildFrame s.params x.kindCode c.address (controlOctet c.sSent c.aSent c.hSent)
    (s.exchangeText x)

/-- The buffers as a selection leaves them: that of a TEXT exchange is IN FLIGHT (R57). -/
def State.buffersInFlight (s : State) (x : Exchange) : Vector OutBuffer Config.outboundBuffers :=
  match x with
  | .text _ b => s.buffers.set b.val s.buffers[b.val].takeFlight b.isLt
  | .poll _ | .sync _ | .group _ => s.buffers

/-- The exchange begun in the selection event: the context created, the block built, RTS asserted, and SENDING entered if
CTS is active, RAISING with the CTS timer otherwise (R51, R119, R136). -/
def State.beginExchange (s : State) (x : Exchange) : State :=
  { s with
    context := some (s.composeContext x)
    framer := some (s.composeFrame x)
    buffers := s.buffersInFlight x
    engine := if s.cts then .sending else .raising
    ctsTimer := if s.cts then none else startTimer s.params.ctsTimeout.toNat }

/-- A selection (R42 to R44): it takes place in READY with no stop requested and a source selectable; elsewhere the event
does not occur (log 1). -/
def State.select (s : State) : State :=
  if s.engine = .ready ∧ s.stopRequested = false ∧ s.selectable = true then
    let o := s.choose
    match o.exchange with
    | some x => o.state.beginExchange x
    | none => o.state
  else s

/-- SELECTION (R42). -/
def execSelection (s : State) : Host.Outcome State Fault Refusal := .next s.select

end Sys2Proof.Machine
end

