-- ==== Sys2Proof/Machine/Station.lean ====
section
/-! DEFINITION. The commands of the Station Table (chapter 1), and SYNC STATION (R76). -/

namespace Sys2Proof.Machine

/-! ### Admission, lookup and reading (R10, R12, R13) -/

/-- The record of a station just admitted (R12). -/
def admittedRecord (address group quiet : Octet) : Record :=
  { Record.free with
    state := .inService .staged
    address := address
    group := optionalOctet group
    quietLimit := optionalOctet quiet }

/-- ADMIT STATION's own rule (R12). -/
def admitStation (args : List Octet) (s : State) : Completion :=
  let a := argument args 0
  let g := argument args 1
  let q := argument args 2
  if isIndividualAddress a = false ∨ isGroupArgument g = false then refuse s .badAddress
  else if (s.slotOfAddress a).isSome then refuse s .addressInUse
  else
    match s.lowestFreeSlot with
    | none => refuse s .tableFull
    | some i =>
      answer ((s.setRecord i (admittedRecord a g q)).appendUrgent i) .ok
        [slotOctet i, if s.urgent.length < Config.urgentCapacity then 1 else 0]

/-- ADMIT_STATION (R12). -/
def execAdmitStation (s : State) : Host.Outcome State Fault Refusal :=
  .next (s.complete .admitStation admitStation)

/-- FIND STATION's own rule (R10). -/
def findStation (args : List Octet) (s : State) : Completion :=
  let a := argument args 0
  if isIndividualAddress a then
    match s.slotOfAddress a with
    | some i => answer s .ok [slotOctet i, (s.record i).state.code]
    | none => refuse s .notFound
  else refuse s .badAddress

/-- FIND_STATION (R10). -/
def execFindStation (s : State) : Host.Outcome State Fault Refusal :=
  .next (s.complete .findStation findStation)

/-- The sixteen result octets of READ STATION (R13), absent fields by the stand-ins of R4. -/
def State.stationOctets (s : State) (i : Slot) : List Octet :=
  let r := s.record i
  [r.state.code, r.address, r.group.getD 0, s.stationFlags i,
   octetOfNat r.missCount, octetOfNat r.retryCount,
   match r.outboundText with
     | some b => octetOfNat b.val
     | none => 0xFF,
   r.lastStatus.getD 0, octetOfNat r.ringCount, octetOfNat r.inboundCount,
   r.quietLimit.getD 0, octetOfNat r.quietCount,
   highOctet r.deliveredCount, lowOctet r.deliveredCount,
   highOctet r.receivedCount, lowOctet r.receivedCount]

/-- READ STATION's own rule (R13). -/
def readStation (args : List Octet) (s : State) : Completion :=
  withSlot (argument args 0) s fun i => answer s .ok (s.stationOctets i)

/-- READ_STATION (R13). -/
def execReadStation (s : State) : Host.Outcome State Fault Refusal :=
  .next (s.complete .readStation readStation)

/-! ### Modification (R14 to R18) -/

/-- Whether a field number is one of MODIFY STATION's (R14). -/
def isModifyField (f : Octet) : Bool := 1 ≤ f.toNat && f.toNat ≤ 4

/-- Whether the MODIFY STATION in progress completes as the row of field `f`: it names the field, or its completion is
decided before the field is (log 8). -/
def Command.selectsField (c : Command) (f : Octet) : Bool :=
  c.overflow || c.args.length != 3 || !isModifyField (argument c.args 1) || argument c.args 1 == f

/-- MODIFY STATION's common checks, then the rule of the field (R11, R14). -/
def modifyStation (rule : Slot → Octet → State → Completion) (args : List Octet) (s : State) :
    Completion :=
  withSlot (argument args 0) s fun i =>
    if isModifyField (argument args 1) = false then refuse s .badField
    else
      match (s.record i).state with
      | .free | .retiring => refuse s .wrongState
      | .inService _ | .held _ => rule i (argument args 2) s

/-- The completion of MODIFY STATION as the row of field `f`. -/
def State.completeModify (s : State) (f : Octet) (rule : Slot → Octet → State → Completion) :
    State :=
  match s.command with
  | some c => if c.selectsField f then s.complete .modifyStation (modifyStation rule) else s
  | none => s

/-- Field ADDRESS (R14, R15). -/
def modifyAddress (i : Slot) (v : Octet) (s : State) : Completion :=
  match (s.record i).state with
  | .inService .active | .inService .suspect | .free | .retiring => refuse s .wrongState
  | .inService .staged | .inService .lost | .held _ =>
    if isIndividualAddress v = false then refuse s .badAddress
    else if s.addressHeldByOther i v then refuse s .addressInUse
    else
      let held := match (s.record i).state with
        | .held _ => true
        | _ => false
      answer
        (s.modRecord i fun r =>
          { r with address := v, resyncPending := r.resyncPending || held }) .ok []

/-- MODIFY_STATION_ADDRESS (R15). -/
def execModifyStationAddress (s : State) : Host.Outcome State Fault Refusal :=
  .next (s.completeModify 1 modifyAddress)

/-- Field GROUP (R16). -/
def modifyGroup (i : Slot) (v : Octet) (s : State) : Completion :=
  if isGroupArgument v then
    answer (s.modRecord i fun r => { r with group := optionalOctet v }) .ok []
  else refuse s .badAddress

/-- MODIFY_STATION_GROUP (R16). -/
def execModifyStationGroup (s : State) : Host.Outcome State Fault Refusal :=
  .next (s.completeModify 2 modifyGroup)

/-- Field QUIET LIMIT (R17). -/
def modifyQuietLimit (i : Slot) (v : Octet) (s : State) : Completion :=
  answer (s.modRecord i fun r => { r with quietLimit := optionalOctet v, quietCount := 0 }) .ok []

/-- MODIFY_STATION_QUIET_LIMIT (R17). -/
def execModifyStationQuietLimit (s : State) : Host.Outcome State Fault Refusal :=
  .next (s.completeModify 3 modifyQuietLimit)

/-- Field CLEAR COUNTERS; the value is ignored (R18). -/
def modifyClearCounters (i : Slot) (_v : Octet) (s : State) : Completion :=
  answer (s.modRecord i fun r => { r with deliveredCount := 0, receivedCount := 0 }) .ok []

/-- MODIFY_STATION_CLEAR_COUNTERS (R18). -/
def execModifyStationClearCounters (s : State) : Host.Outcome State Fault Refusal :=
  .next (s.completeModify 4 modifyClearCounters)

/-! ### Hold, release, retirement and SYNC STATION (R19 to R21, R76) -/

/-- HOLD STATION's own rule (R19). -/
def holdStation (args : List Octet) (s : State) : Completion :=
  withSlot (argument args 0) s fun i =>
    match (s.record i).state with
    | .held _ => refuse s .already
    | .free | .retiring => refuse s .wrongState
    | .inService st =>
      answer ((s.modRecord i fun r => { r with state := .held st }).removeUrgent i) .ok []

/-- HOLD_STATION (R19). -/
def execHoldStation (s : State) : Host.Outcome State Fault Refusal :=
  .next (s.complete .holdStation holdStation)

/-- RELEASE STATION's own rule, by held-from (R20). -/
def releaseStation (args : List Octet) (s : State) : Completion :=
  withSlot (argument args 0) s fun i =>
    match (s.record i).state with
    | .free | .inService _ | .retiring => refuse s .wrongState
    | .held .active | .held .suspect =>
      answer
        (s.modRecord i fun r =>
          { r with state := .inService .active, missCount := 0, resyncPending := true }) .ok []
    | .held .staged =>
      answer ((s.modRecord i fun r => { r with state := .inService .staged }).appendUrgent i) .ok []
    | .held .lost => answer (s.modRecord i fun r => { r with state := .inService .lost }) .ok []

/-- RELEASE_STATION (R20). -/
def execReleaseStation (s : State) : Host.Outcome State Fault Refusal :=
  .next (s.complete .releaseStation releaseStation)

/-- RETIRE STATION's effect on a record in service or HELD (R21, R31): RETIRING, the ring, urgent and attention entries
purged, a FILLED text freed, and RETIRED raised if its condition already holds. -/
def State.retire (s : State) (i : Slot) : State :=
  let t := (((s.modRecord i fun r => { r with state := .retiring }).purgeRing i).removeUrgent
    i).purgeReasons i
  (if s.textFilled i then t.freeText i else t).testRetired i

/-- RETIRE STATION's own rule (R21). -/
def retireStation (args : List Octet) (s : State) : Completion :=
  withSlot (argument args 0) s fun i =>
    match (s.record i).state with
    | .retiring => refuse s .already
    | .free => refuse s .wrongState
    | .inService _ | .held _ => answer (s.retire i) .ok []

/-- RETIRE_STATION (R21). -/
def execRetireStation (s : State) : Host.Outcome State Fault Refusal :=
  .next (s.complete .retireStation retireStation)

/-- SYNC STATION's own rule (R76). -/
def syncStation (args : List Octet) (s : State) : Completion :=
  withSlot (argument args 0) s fun i =>
    match (s.record i).state with
    | .inService .active | .inService .suspect | .held _ => answer (s.setResync i) .ok []
    | .inService .staged | .inService .lost | .free | .retiring => refuse s .wrongState

/-- SYNC_STATION (R76). -/
def execSyncStation (s : State) : Host.Outcome State Fault Refusal :=
  .next (s.complete .syncStation syncStation)

/-! ### TABLE RESET (R26) -/

/-- The Station Table and everything tied to it in the empty state (R26). -/
def State.emptyTable (s : State) : State :=
  { s with
    records := Vector.replicate Config.slots Record.free
    ring := [], ringCursor := 0, urgent := [], probePass := .none, probeCursor := 0
    followOn := none
    buffers := Vector.replicate Config.outboundBuffers .free
    groupQueue := [], inbound := [], inboundCursor := 0
    staging := [], stagingOverflow := false, bufferWanted := false
    attention := [] }

/-- TABLE RESET's own rule (R26). -/
def tableReset (_args : List Octet) (s : State) : Completion :=
  if s.engine = .stopped then answer s.emptyTable .ok [] else refuse s .lineRunning

/-- TABLE_RESET (R26). -/
def execTableReset (s : State) : Host.Outcome State Fault Refusal :=
  .next (s.complete .tableReset tableReset)

end Sys2Proof.Machine
end

