-- ==== Sys2Proof/Machine/Text.lean ====
section
/-! DEFINITION. The text commands of the Text Store (chapter 4). -/

namespace Sys2Proof.Machine

/-! ### Queueing (R78, R80, R82, R84) -/

/-- A queue command refused for lack of a buffer: buffer-wanted is set (R80). -/
def refuseNoBuffer (s : State) : Completion :=
  { state := { s with bufferWanted := true }, code := .noBuffer, data := [] }

/-- The staging length set to 0 and STAGING OVERFLOW cleared (R78). -/
def State.emptyStaging (s : State) : State := { s with staging := [], stagingOverflow := false }

/-- Whether the staging text may be queued: LENGTH is given otherwise (R82, R84). -/
def State.stagingQueueable (s : State) : Bool := !s.staging.isEmpty && !s.stagingOverflow

/-- The staging text placed into a buffer (R82, R84). -/
def State.fillBuffer (s : State) (b : BufferNo) (x : OutBuffer) : State :=
  { s.emptyStaging with buffers := s.buffers.set b.val x b.isLt }

/-- The record states in which QUEUE TEXT takes a text (R82). -/
def Lifecycle.takesText : Lifecycle → Bool
  | .inService .staged | .inService .active | .inService .suspect | .held _ => true
  | .inService .lost | .free | .retiring => false

/-- QUEUE TEXT's own rule (R82). -/
def queueText (args : List Octet) (s : State) : Completion :=
  withSlot (argument args 0) s fun i =>
    if (s.record i).state.takesText = false then refuse s .wrongState
    else if (s.record i).outboundText.isSome then refuse s .textPending
    else if s.stagingQueueable = false then refuse s .length
    else
      match s.lowestFreeBuffer with
      | none => refuseNoBuffer s
      | some b =>
        let t := s.modRecord i fun r =>
          { r with outboundText := some b, retryCount := 0, cancelRequested := false }
        answer (t.fillBuffer b (.filled i s.staging)) .ok [octetOfNat b.val]

/-- QUEUE_TEXT (R82). -/
def execQueueText (s : State) : Host.Outcome State Fault Refusal :=
  .next (s.complete .queueText queueText)

/-- A group or broadcast address, 0xF0..0xFF (R84). -/
def isGroupAddress (a : Octet) : Bool := 0xF0 ≤ a.toNat

/-- QUEUE GROUP TEXT's own rule (R84, R164). -/
def queueGroupText (args : List Octet) (s : State) : Completion :=
  let a := argument args 0
  if isGroupAddress a = false then refuse s .badAddress
  else if s.stagingQueueable = false then refuse s .length
  else
    match s.lowestFreeBuffer with
    | none => refuseNoBuffer s
    | some b =>
      let t := s.fillBuffer b (.group a s.staging s.params.groupRepeat.toNat)
      answer { t with groupQueue := s.groupQueue ++ [b] } .ok [octetOfNat b.val]

/-- QUEUE_GROUP_TEXT (R84). -/
def execQueueGroupText (s : State) : Host.Outcome State Fault Refusal :=
  .next (s.complete .queueGroupText queueGroupText)

/-! ### Cancellation (R73, R86, R87) -/

/-- CANCEL TEXT of a FILLED text: freed, with resync pending if its retry count was above 0 (R86). -/
def State.cancelFilled (s : State) (i : Slot) : State :=
  if (s.record i).retryCount = 0 then s.freeText i else (s.freeText i).setResync i

/-- CANCEL TEXT's own rule (R86). -/
def cancelText (args : List Octet) (s : State) : Completion :=
  withSlot (argument args 0) s fun i =>
    if (s.record i).state = .free then refuse s .wrongState
    else
      match (s.record i).outboundText with
      | none => refuse s .noText
      | some _ =>
        if s.textInFlight i then
          answer (s.modRecord i fun r => { r with cancelRequested := true }) .pending []
        else answer (s.cancelFilled i) .cancelled []

/-- CANCEL_TEXT (R86). -/
def execCancelText (s : State) : Host.Outcome State Fault Refusal :=
  .next (s.complete .cancelText cancelText)

/-! ### Clearing, status and the inbound pair (R88, R89, R92, R93) -/

/-- CLEAR STAGING's own rule (R88). -/
def clearStaging (_args : List Octet) (s : State) : Completion := answer s.emptyStaging .ok []

/-- CLEAR_STAGING (R88). -/
def execClearStaging (s : State) : Host.Outcome State Fault Refusal :=
  .next (s.complete .clearStaging clearStaging)

/-- READ INBOUND's own rule (R92). DEDUCED (log 19), the model's choice between two rules: the address reported is the one
stored with the text, as R92 says, and not the one the record holds, as R25 says. -/
def readInbound (_args : List Octet) (s : State) : Completion :=
  match s.inbound with
  | [] => refuse s .noText
  | t :: _ =>
    answer { s with inboundCursor := 0 } .ok
      [slotOctet t.slot, t.address, octetOfNat t.text.length]

/-- READ_INBOUND (R92). -/
def execReadInbound (s : State) : Host.Outcome State Fault Refusal :=
  .next (s.complete .readInbound readInbound)

/-- The head inbound buffer given back (R93). -/
def State.dropInbound (s : State) (t : InboundText) (rest : List InboundText) : State :=
  let u := s.modRecord t.slot fun r => { r with inboundCount := r.inboundCount - 1 }
  { u with inbound := rest, inboundCursor := 0 }

/-- RELEASE INBOUND's own rule, with the RETIRED test of R22 (R93). -/
def releaseInbound (_args : List Octet) (s : State) : Completion :=
  match s.inbound with
  | [] => refuse s .noText
  | t :: rest => answer ((s.dropInbound t rest).testRetired t.slot) .ok []

/-- RELEASE_INBOUND (R93). -/
def execReleaseInbound (s : State) : Host.Outcome State Fault Refusal :=
  .next (s.complete .releaseInbound releaseInbound)

/-- The number of FREE outbound buffers (R89). -/
def State.freeBufferCount (s : State) : Nat :=
  (List.finRange Config.outboundBuffers).countP fun b => s.buffers[b.val] == .free

/-- BUFFER STATUS's own rule (R89). -/
def bufferStatus (_args : List Octet) (s : State) : Completion :=
  answer s .ok
    [octetOfNat s.freeBufferCount, octetOfNat s.groupQueue.length, octetOfNat s.inbound.length,
     octetOfNat s.staging.length]

/-- BUFFER_STATUS (R89). -/
def execBufferStatus (s : State) : Host.Outcome State Fault Refusal :=
  .next (s.complete .bufferStatus bufferStatus)

end Sys2Proof.Machine
end

