-- ==== Sys2Proof/Machine/Dispatch.lean ====
section
/-! DEFINITION. One arm per row of spec/opcode_table.json, each one direct call of that row's meaning. -/

namespace Sys2Proof.Machine

def exec (i : Instr) (s : State) : Host.Outcome State Fault Refusal :=
  match i with
  | .acceptance code => Sys2Proof.Machine.execAcceptance code s
  | .argumentWrite octet => Sys2Proof.Machine.execArgumentWrite octet s
  | .resultRead => Sys2Proof.Machine.execResultRead s
  | .unknownCommand => Sys2Proof.Machine.execUnknownCommand s
  | .admitStation => Sys2Proof.Machine.execAdmitStation s
  | .findStation => Sys2Proof.Machine.execFindStation s
  | .readStation => Sys2Proof.Machine.execReadStation s
  | .modifyStationAddress => Sys2Proof.Machine.execModifyStationAddress s
  | .modifyStationGroup => Sys2Proof.Machine.execModifyStationGroup s
  | .modifyStationQuietLimit => Sys2Proof.Machine.execModifyStationQuietLimit s
  | .modifyStationClearCounters => Sys2Proof.Machine.execModifyStationClearCounters s
  | .holdStation => Sys2Proof.Machine.execHoldStation s
  | .releaseStation => Sys2Proof.Machine.execReleaseStation s
  | .retireStation => Sys2Proof.Machine.execRetireStation s
  | .syncStation => Sys2Proof.Machine.execSyncStation s
  | .tableReset => Sys2Proof.Machine.execTableReset s
  | .ringInsert => Sys2Proof.Machine.execRingInsert s
  | .ringRemove => Sys2Proof.Machine.execRingRemove s
  | .ringRead => Sys2Proof.Machine.execRingRead s
  | .ringStatus => Sys2Proof.Machine.execRingStatus s
  | .pollNow => Sys2Proof.Machine.execPollNow s
  | .queueText => Sys2Proof.Machine.execQueueText s
  | .queueGroupText => Sys2Proof.Machine.execQueueGroupText s
  | .cancelText => Sys2Proof.Machine.execCancelText s
  | .clearStaging => Sys2Proof.Machine.execClearStaging s
  | .readInbound => Sys2Proof.Machine.execReadInbound s
  | .releaseInbound => Sys2Proof.Machine.execReleaseInbound s
  | .bufferStatus => Sys2Proof.Machine.execBufferStatus s
  | .nextAttention => Sys2Proof.Machine.execNextAttention s
  | .startLine => Sys2Proof.Machine.execStartLine s
  | .stopLine => Sys2Proof.Machine.execStopLine s
  | .abortLine => Sys2Proof.Machine.execAbortLine s
  | .lineTest => Sys2Proof.Machine.execLineTest s
  | .stagingTextWrite octet => Sys2Proof.Machine.execStagingTextWrite octet s
  | .inboundTextRead => Sys2Proof.Machine.execInboundTextRead s
  | .causeClearWrite octet => Sys2Proof.Machine.execCauseClearWrite octet s
  | .maskWrite octet => Sys2Proof.Machine.execMaskWrite octet s
  | .parameterIndexWrite octet => Sys2Proof.Machine.execParameterIndexWrite octet s
  | .parameterDataRead => Sys2Proof.Machine.execParameterDataRead s
  | .parameterDataWrite octet => Sys2Proof.Machine.execParameterDataWrite octet s
  | .lineStatusRead => Sys2Proof.Machine.execLineStatusRead s
  | .lineStatusPortWrite octet => Sys2Proof.Machine.execLineStatusPortWrite octet s
  | .masterReset => Sys2Proof.Machine.execMasterReset s
  | .rstReleased => Sys2Proof.Machine.execRstReleased s
  | .ctsChange active => Sys2Proof.Machine.execCtsChange active s
  | .dcdChange active => Sys2Proof.Machine.execDcdChange active s
  | .ctsLost => Sys2Proof.Machine.execCtsLost s
  | .selection => Sys2Proof.Machine.execSelection s
  | .lastCrcOctetSent => Sys2Proof.Machine.execLastCrcOctetSent s
  | .lastPadOctetEnded => Sys2Proof.Machine.execLastPadOctetEnded s
  | .leadDetected => Sys2Proof.Machine.execLeadDetected s
  | .blockJudged octet => Sys2Proof.Machine.execBlockJudged octet s
  | .gapTimerExpiry => Sys2Proof.Machine.execGapTimerExpiry s
  | .ctsTimerExpiry => Sys2Proof.Machine.execCtsTimerExpiry s
  | .replyTimerExpiry => Sys2Proof.Machine.execReplyTimerExpiry s
  | .settleTimerExpiry => Sys2Proof.Machine.execSettleTimerExpiry s
  | .probeTimerExpiry => Sys2Proof.Machine.execProbeTimerExpiry s
  | .octetAlignmentTaken bits => Sys2Proof.Machine.execOctetAlignmentTaken bits s
  | .alignmentGivenUp octet => Sys2Proof.Machine.execAlignmentGivenUp octet s
  | .bodyOctetDecoded octet => Sys2Proof.Machine.execBodyOctetDecoded octet s

end Sys2Proof.Machine
end

