-- ==== Sys2Proof/Machine/Time.lean ====
section
/-! DEFINITION. One octet time of the line clock in use, which passes when no command waits (DESIGN CHOICE, log 2). The
614 then acts by itself: the timers count and expire (R134), the framer sends an octet (R120), the internal loop of a
LINE TEST carries it (R129), and the scheduler selects as soon as it can (R42, R136). Each act is the event of the
opcode table. -/

namespace Sys2Proof.Machine

/-- One octet time counted by a running timer (R134). -/
def Timer.tick (t : Timer) : Timer := { t with count := t.count + 1 }

/-- Whether a timer runs and its period has been counted (R134). -/
def timerDue (t : Option Timer) : Bool :=
  match t with
  | some x => x.period ≤ x.count
  | none => false

/-- The five line timers count one octet time (R131, R134). -/
def State.countTimers (s : State) : State :=
  { s with
    gapTimer := s.gapTimer.map Timer.tick
    ctsTimer := s.ctsTimer.map Timer.tick
    replyTimer := s.replyTimer.map Timer.tick
    settleTimer := s.settleTimer.map Timer.tick
    probeTimer := s.probeTimer.map Timer.tick }

/-- An event that happens if its condition holds. -/
def State.whenever (s : State) (b : Bool) (event : State → State) : State :=
  if b then event s else s

/-- Bits hunted in the loop (R123, R129): those behind a match begin the octet in assembly. -/
def State.huntLoop (s : State) (bits : List Bool) : State :=
  let h := s.receiver.hunt s.params.leadOctet bits
  { s with receiver := { h.1 with octetBits := h.2 } }

/-- One whole octet assembled from the loop on the receiver's alignment (R123, R125, R129). -/
def State.loopOctet (s : State) (o : Octet) : State :=
  match s.receiver.phase with
  | .aligned => if o = s.params.leadOctet then s.leadDetected else s.alignmentGivenUp o
  | .body =>
    match s.takeOctet o with
    | .more _ => s.bodyOctetDecoded o
    | .judged _ _ => s.blockJudged o
  | .off | .hunting | .ended => s

/-- Bits that follow a whole octet of the loop: the first of the next octet on the alignment, or hunted where the alignment
was given up (R123). -/
def State.loopRest (s : State) (bits : List Bool) : State :=
  match s.receiver.phase with
  | .hunting => s.huntLoop bits
  | .aligned | .body => { s with receiver := { s.receiver with octetBits := bits } }
  | .off | .ended => s

/-- The bits of one octet sent come round the internal loop (R129): in HUNTING they are hunted, and on an alignment, which
need not be the sender's, they complete the octet in assembly and begin the next (R123). -/
def State.loopBits (s : State) (bits : List Bool) : State :=
  match s.receiver.phase with
  | .hunting => s.huntLoop bits
  | .aligned | .body =>
    let all := s.receiver.octetBits ++ bits
    (s.loopOctet (octetOfBits (all.take 8))).loopRest (all.drop 8)
  | .off | .ended => s

/-- The octet in progress, if the framer holds a block: after the send the loop carries mark, 0xFF octets (R151). -/
def State.octetOut (s : State) : Octet :=
  match s.framer with
  | some f => f.octets.getD f.sent 0xFF
  | none => 0xFF

/-- The octet in progress has ended, and another of the block's octets has gone out (R120). -/
def State.advanceFramer (s : State) : State :=
  { s with framer := s.framer.map fun f => { f with sent := f.sent + 1 } }

/-- Whether the octet in progress is the last of the CRC (R120). -/
def State.endsCrc (s : State) : Bool :=
  match s.framer with
  | some f => f.sent + 1 == f.crcEnd
  | none => false

/-- Whether every octet of the block has gone out (R120). -/
def State.blockOut (s : State) : Bool :=
  match s.framer with
  | some f => f.octets.length ≤ f.sent
  | none => false

/-- The end of the octet in progress in SENDING or TESTING: the loop carries it, the framer goes on, and the points of
R120 and the cut of R139 are taken. -/
def State.transmitOctet (s : State) : State :=
  match s.engine with
  | .sending | .testing =>
    let a := s.whenever (s.engine == .testing) fun t => t.loopBits (lineBits t.octetOut)
    let b := if s.endsCrc then a.lastCrcOctetSent else a.advanceFramer
    let c := b.whenever b.blockOut State.lastPadOctetEnded
    c.ctsLostEvent
  | .stopped | .gap | .ready | .raising | .listening | .receiving | .settling | .fault => s

/-- The timers whose periods have been counted expire (R134). At most one engine timer runs at a time. -/
def State.expireTimers (s : State) : State :=
  ((((s.whenever (timerDue s.ctsTimer) State.ctsTimerExpiry).whenever
    (timerDue s.replyTimer) State.replyTimerExpiry).whenever
    (timerDue s.settleTimer) State.settleTimerExpiry).whenever
    (timerDue s.gapTimer) State.gapTimerExpiry).whenever
    (timerDue s.probeTimer) State.probeTimerExpiry

/-- One octet time of the line clock in use. DESIGN CHOICE (log 20): a command in progress does not complete in it, because
R172 gives no time between acceptance and completion; the completion is its own row. -/
def State.octetTime (s : State) : State :=
  s.select.countTimers.transmitOctet.expireTimers.select

end Sys2Proof.Machine
end

