-- ==== Sys2Proof/Machine/Step.lean ====
section
/-! DEFINITION. One step of the 614: the event at the front of the queue, or one octet time when no event waits (log 2,
log 9). -/

namespace Sys2Proof.Machine

/-- One step. The front command is taken off the queue and executed on the state with the queue's rest; on an empty queue
one octet time of the line clock passes (log 2). -/
def step (s : State) : Host.Outcome State Fault Refusal :=
  match s.pending with
  | c :: rest => exec c { s with pending := rest }
  | [] => .next s.octetTime

/-- The state with the command that a word of the opcode table spells put at the front of its queue; no word spells one
(log 9). -/
def State.withFetchWord (s : State) (nbits w : Nat) : State :=
  match decodeTableWord nbits w with
  | some c => { s with pending := c :: s.pending }
  | none => s

end Sys2Proof.Machine
end

