-- ==== Sys2Proof/Safety.lean ====
section
/-! DEFINITION. What holds of the 614 at every moment, block by block, in the terms the statements use: each predicate
gathers sentences that the specification states of every state. -/

namespace Sys2Proof.Machine

/-- The Parameter File never holds an illegal value (chapter 8, R117, R154, R163). -/
abbrev Params.Legal (p : Params) : Prop :=
  legalPair p.leadOctet p.prefixOctet = true ∧
  (2 ≤ p.leadCount.toNat ∧ p.leadCount.toNat ≤ 4) ∧
  (1 ≤ p.padCount.toNat ∧ p.padCount.toNat ≤ 4) ∧
  12 ≤ p.divisor.toNat ∧
  2 ≤ p.replyTimeout.toNat ∧
  1 ≤ p.ctsTimeout.toNat ∧
  p.turnaroundGap.toNat ≤ 63 ∧
  1 ≤ p.probeInterval.toNat ∧
  (1 ≤ p.suspectThreshold.toNat ∧ p.suspectThreshold.toNat < p.lostThreshold.toNat ∧
    p.lostThreshold.toNat ≤ 15) ∧
  (1 ≤ p.retryLimit.toNat ∧ p.retryLimit.toNat ≤ 15) ∧
  (1 ≤ p.groupRepeat.toNat ∧ p.groupRepeat.toNat ≤ 3)

/-- A record whose set holds RETIRED is RETIRING, has no inbound text and is named by no exchange context (R22). -/
abbrev State.RetiredWf (s : State) : Prop :=
  ∀ i : Slot, reasonIn (s.record i).reasons .retired = true →
    (s.record i).state = .retiring ∧ (s.record i).inboundCount = 0 ∧ s.contextNames i = false

/-- The Poll Ring (R7, R27): at most 64 entries, the cursor within it, each ring count the number of entries naming the
slot and at most 4, and no entry naming a FREE or RETIRING slot. -/
abbrev State.RingWf (s : State) : Prop :=
  s.ring.length ≤ 64 ∧
  (s.ring ≠ [] → s.ringCursor < s.ring.length) ∧ (s.ring = [] → s.ringCursor = 0) ∧
  (∀ i : Slot, (s.record i).ringCount = s.ring.count i ∧ (s.record i).ringCount ≤ 4) ∧
  (∀ i ∈ s.ring, (s.record i).state ≠ .free ∧ (s.record i).state ≠ .retiring)

/-- The urgent list (R34): at most 4 slots, none twice, each STAGED, ACTIVE, SUSPECT or LOST. -/
abbrev State.UrgentWf (s : State) : Prop :=
  s.urgent.length ≤ 4 ∧ s.urgent.Nodup ∧
  ∀ i ∈ s.urgent, (s.record i).state.isInService = true

/-- The attention list and the reason sets (R2, R22, R96, R97): a slot is listed at most once and exactly when its set is
not empty, the failure cause is NONE exactly when FAILED is not in the set, a FREE record's set is empty and a RETIRING
record's holds RETIRED at most. -/
abbrev State.AttentionWf (s : State) : Prop :=
  s.attention.Nodup ∧
  (∀ i : Slot, i ∈ s.attention ↔ (s.record i).reasons ≠ 0) ∧
  (∀ i : Slot, (s.record i).failureCause = .none ↔
    reasonIn (s.record i).reasons .failed = false) ∧
  (∀ i : Slot, (s.record i).state = .free → (s.record i).reasons = 0) ∧
  (∀ i : Slot, (s.record i).state = .retiring →
    (s.record i).reasons = 0 ∨ (s.record i).reasons = reasonAdd 0 .retired)

/-- The engine states in which an exchange is in progress (R51). -/
def EngineState.inExchange : EngineState → Bool
  | .raising | .sending | .listening | .receiving => true
  | .stopped | .gap | .ready | .settling | .fault | .testing => false

/-- An exchange context exists exactly in RAISING, SENDING, LISTENING and RECEIVING (R51). -/
abbrev State.ContextWf (s : State) : Prop := s.context.isSome = s.engine.inExchange

/-- A FREE record holds every FREE value, and no exchange context names its slot (R2). -/
abbrev State.FreeWf (s : State) : Prop :=
  ∀ i : Slot, (s.record i).state = .free → s.record i = Record.free ∧ s.contextNames i = false

/-- The fields of a record within their values (R1, R5, R17): the miss and retry counts up to 15, a group that is a group
address, a quiet limit that is not 0, and a quiet count up to the limit, or 0 without one. -/
abbrev State.RecordWf (s : State) : Prop :=
  ∀ i : Slot,
    (s.record i).missCount ≤ 15 ∧ (s.record i).retryCount ≤ 15 ∧
    (∀ g ∈ (s.record i).group, 0xF0 ≤ g.toNat ∧ g.toNat ≤ 0xFE) ∧
    (∀ q ∈ (s.record i).quietLimit, 1 ≤ q.toNat) ∧
    (s.record i).quietCount ≤ ((s.record i).quietLimit.map (·.toNat)).getD 0

/-- The probe pass (R38, R39): its cursor within 0..40, and 0 unless the pass is IN PROGRESS; no pass in STOPPED, FAULT and
TESTING. -/
abbrev State.ProbeWf (s : State) : Prop :=
  s.probeCursor ≤ 40 ∧ (s.probePass ≠ .inProgress → s.probeCursor = 0) ∧
  (s.engine = .stopped ∨ s.engine = .fault ∨ s.engine = .testing → s.probePass = .none)

/-- The inbound pair (R67, R90, R91): at most 2 texts of 1..128 octets, each with an individual address and from a record
that is not FREE; each inbound count the number of texts from the slot; the read cursor within the head text, and 0 for an
empty pair; an EMPTY buffer while a POLL sent with H = 0 is in progress (R56); and the address of an exchange with a slot,
which a text takes, an individual one (R51). -/
abbrev State.InboundWf (s : State) : Prop :=
  s.inbound.length ≤ 2 ∧
  (∀ i : Slot, (s.record i).inboundCount = s.inbound.countP fun t => t.slot == i) ∧
  (∀ t ∈ s.inbound, (s.record t.slot).state ≠ .free ∧ isIndividualAddress t.address = true ∧
    1 ≤ t.text.length ∧ t.text.length ≤ 128) ∧
  s.inboundCursor ≤ (s.inbound.head?.map (·.text.length)).getD 0 ∧
  (∀ c ∈ s.context, ∀ i : Slot, c.exchange = .poll i → c.hSent = false → s.inbound.length ≤ 1) ∧
  (∀ c ∈ s.context, c.exchange.slot?.isSome = true → isIndividualAddress c.address = true)

/-- Whether a buffer is FILLED or IN FLIGHT for the slot (R79). -/
def OutBuffer.isFor (x : OutBuffer) (i : Slot) : Bool :=
  match x with
  | .filled o _ | .inFlight o _ => o == i
  | .free | .group _ _ _ => false

/-- Whether a buffer is GROUP (R79). -/
def OutBuffer.isGroup (x : OutBuffer) : Bool :=
  match x with
  | .group _ _ _ => true
  | .free | .filled _ _ | .inFlight _ _ => false

/-- A text that is not FREE holds 1..128 octets, and a GROUP buffer has a group address as owner and 1..3 repeats
remaining (R79). -/
def OutBuffer.inBounds (x : OutBuffer) : Bool :=
  match x with
  | .free => true
  | .filled _ t | .inFlight _ t => 1 ≤ t.length && t.length ≤ 128
  | .group a t n => 0xF0 ≤ a.toNat && 1 ≤ t.length && t.length ≤ 128 && 1 ≤ n && n ≤ 3

/-- Whether a buffer is IN FLIGHT (R79). -/
def OutBuffer.isInFlight (x : OutBuffer) : Bool :=
  match x with
  | .inFlight _ _ => true
  | .free | .filled _ _ | .group _ _ _ => false

/-- The outbound buffers (R5, R51, R59, R79, R85): a buffer is FILLED or IN FLIGHT for a slot exactly when the slot's
record names it, GROUP exactly when it stands in the group queue, and otherwise FREE; IN FLIGHT exactly in the TEXT
exchange in progress; the buffer of a GROUP exchange is the queue's head. A FREE record names no buffer, a RETIRING
record only one IN FLIGHT, and a record without one has retry count 0 and no cancel requested. -/
abbrev State.TextWf (s : State) : Prop :=
  (∀ b : BufferNo, ∀ i : Slot,
    (s.record i).outboundText = some b ↔ s.buffers[b.val].isFor i = true) ∧
  s.groupQueue.Nodup ∧
  (∀ b : BufferNo, b ∈ s.groupQueue ↔ s.buffers[b.val].isGroup = true) ∧
  (∀ b : BufferNo, s.buffers[b.val].inBounds = true) ∧
  (∀ b : BufferNo, s.buffers[b.val].isInFlight = true →
    ∃ c ∈ s.context, ∃ i : Slot, c.exchange = .text i b) ∧
  (∀ c ∈ s.context, ∀ i : Slot, ∀ b : BufferNo, c.exchange = .text i b →
    (s.record i).outboundText = some b ∧ s.buffers[b.val].isInFlight = true) ∧
  (∀ c ∈ s.context, ∀ b : BufferNo, c.exchange = .group b → s.groupQueue.head? = some b) ∧
  (∀ i : Slot, (s.record i).state = .free → (s.record i).outboundText = none) ∧
  (∀ i : Slot, (s.record i).state = .retiring → s.textFilled i = false) ∧
  (∀ i : Slot, (s.record i).outboundText = none →
    (s.record i).retryCount = 0 ∧ (s.record i).cancelRequested = false)

/-- The receiver's phase in each engine state (R122, R130). -/
def phaseAllowed (e : EngineState) (p : Phase) : Bool :=
  match e, p with
  | .listening, .hunting | .listening, .aligned => true
  | .receiving, .body => true
  | .testing, .off => false
  | .testing, _ => true
  | .listening, _ | .receiving, _ => false
  | _, .off => true
  | _, _ => false

/-- The Line Engine (R38, R51, R119, R120, R130, R134, R142, R144, R148, R150): which of the framer's block, the timers,
the receiver's phase, the point reached, a stop request, a CTS loss, a follow-on and a LINE TEST each engine state goes
with. -/
abbrev State.EngineWf (s : State) : Prop :=
  s.ContextWf ∧
  (s.engine = .raising ∨ s.engine = .sending → s.framer.isSome = true) ∧
  (s.framer.isSome = true → s.engine = .raising ∨ s.engine = .sending ∨ s.engine = .testing) ∧
  (s.gapTimer.isSome = true ↔ s.engine = .gap) ∧
  (s.ctsTimer.isSome = true ↔ s.engine = .raising) ∧
  (s.engine = .listening → s.replyTimer.isSome = true) ∧
  (s.replyTimer.isSome = true → s.engine = .listening ∨ s.engine = .testing) ∧
  (s.settleTimer.isSome = true ↔ s.engine = .settling) ∧
  (s.engine = .settling ∨ s.engine = .receiving → s.dcd = true) ∧
  (s.probeTimer.isSome = false ↔
    s.engine = .stopped ∨ s.engine = .fault ∨ s.engine = .testing) ∧
  (s.stopRequested = true → s.engine.inExchange = true ∨ s.engine = .settling) ∧
  (s.ctsLoss = true → s.engine = .sending) ∧
  (s.followOn.isSome = true → s.engine = .settling ∨ s.engine = .gap ∨ s.engine = .ready) ∧
  (s.lineTest.isSome = true ↔ s.engine = .testing) ∧
  (s.engine = .testing → ∃ c ∈ s.command, c.code = 0x53) ∧
  phaseAllowed s.engine s.receiver.phase = true ∧
  (∀ c ∈ s.context,
    (s.engine = .raising → c.point = .notSent) ∧
    (∀ f ∈ s.framer, c.point = .whollySent ↔ f.crcEnd ≤ f.sent) ∧
    (s.engine = .listening ∨ s.engine = .receiving →
      c.point = .whollySent ∧ c.exchange.slot?.isSome = true))

/-- The receiver (R115, R122 to R126): its fields within their bounds; nothing held in OFF, the window alone in HUNTING, and
in ALIGNED the bits of the octet in assembly beside it; in BODY a valid kind once there is one, a LENGTH exactly for a kind
that has one, and as many octets in the assembly area as the decoded count and the LENGTH say; no escape open in ENDED. -/
abbrev Receiver.Wf (rx : Receiver) (testing : Bool) : Prop :=
  rx.window.length ≤ 8 ∧ rx.decoded ≤ 134 ∧ rx.assembly.length ≤ 128 ∧
  (∀ n ∈ rx.length, 1 ≤ n ∧ n ≤ 128) ∧
  (rx.phase = .off → rx = Receiver.off) ∧
  (rx.phase = .hunting ∨ rx.phase = .aligned →
    rx = { Receiver.off with
      phase := rx.phase, window := rx.window, octetBits := rx.octetBits }) ∧
  rx.octetBits.length ≤ 7 ∧ (rx.octetBits ≠ [] → rx.phase = .aligned ∨ rx.phase = .body) ∧
  (rx.phase = .ended → rx.escapeOpen = false) ∧
  (rx.phase = .body →
    (rx.decoded = 0 ∨ validKind testing rx.kind = true) ∧
    (rx.decoded ≤ 3 → rx.length = none ∧ rx.assembly = []) ∧
    (4 ≤ rx.decoded → kindHasLength rx.kind = false →
      rx.decoded = 4 ∧ rx.length = none ∧ rx.assembly = []) ∧
    (4 ≤ rx.decoded → kindHasLength rx.kind = true →
      ∃ n ∈ rx.length, rx.decoded ≤ n + 5 ∧ rx.assembly.length = min (rx.decoded - 4) n ∧
        (rx.kind = kindStatus → n = 1)))

/-- While RST# is low every block is at its reset value (R176). -/
abbrev State.ResetWf (s : State) : Prop := s.rstLow = true → s = s.heldInReset

/-- No two records that are not FREE hold the same address, and each holds an individual address (R9). -/
abbrev State.AddressWf (s : State) : Prop :=
  (∀ i j : Slot, (s.record i).state ≠ .free → (s.record j).state ≠ .free →
    (s.record i).address = (s.record j).address → i = j) ∧
  (∀ i : Slot, (s.record i).state ≠ .free → isIndividualAddress (s.record i).address = true)

/-- The port and the staging buffer within their sizes (R77, R168, R173). -/
abbrev State.PortWf (s : State) : Prop :=
  s.staging.length ≤ 128 ∧ s.argumentBlock.length ≤ 8 ∧ s.result.length ≤ 17 ∧
  s.resultCursor ≤ s.result.length ∧ (s.busy = true → s.done = false)

/-- The invariant of the 614: the bounds and relations above, block by block. -/
abbrev State.Wf (s : State) : Prop :=
  s.params.Legal ∧ s.FreeWf ∧ s.RetiredWf ∧ s.RecordWf ∧ s.RingWf ∧ s.UrgentWf ∧ s.ProbeWf ∧
  s.AttentionWf ∧ s.InboundWf ∧ s.TextWf ∧ s.EngineWf ∧
  s.receiver.Wf (s.engine == .testing) ∧ s.AddressWf ∧ s.PortWf

/-! ### The terms of the statements -/

/-- The command in progress is the one of `code`, accepted with the arguments `args` and without ARGUMENT OVERFLOW
(R169). -/
abbrev State.inHand (s : State) (code : Octet) (args : List Octet) : Prop :=
  s.command = some { code := code, args := args, overflow := false }

/-- The port as a completion leaves it, with `octets` in the result block (R172). -/
def State.answered (s : State) (octets : List Octet) : State :=
  { s with
    result := octets, resultCursor := 0, command := none, done := true, causeDone := true }

/-- The completion `c` answers the result code `code` with `zeros` data octets 0x00, and changes nothing else (R11, R172,
R173). -/
abbrev State.refuses (s : State) (c : Instr) (code : Octet) (zeros : Nat) : Prop :=
  exec c s = .next (s.answered (code :: List.replicate zeros 0))

/-- A number of octet times passing while no command waits (log 2). -/
def State.ticks (s : State) : Nat → State
  | 0 => s
  | n + 1 => s.octetTime.ticks n

/-- The record is STAGED, ACTIVE, SUSPECT, LOST or HELD (R14, R21, R29). -/
def Lifecycle.isEnlisted : Lifecycle → Bool
  | .inService _ | .held _ => true
  | .free | .retiring => false

/-- The completions of the commands of the command table (9.6): the row of the opcode table, the code, the number of
arguments and the result length (R173). MODIFY STATION has four rows. -/
def commandRows : List (Instr × Octet × Nat × Nat) :=
  [(Instr.admitStation, (0x10 : Octet), 3, 3), (.findStation, 0x11, 1, 3),
   (.readStation, 0x12, 1, 17), (.modifyStationAddress, 0x13, 3, 1),
   (.modifyStationGroup, 0x13, 3, 1), (.modifyStationQuietLimit, 0x13, 3, 1),
   (.modifyStationClearCounters, 0x13, 3, 1), (.holdStation, 0x14, 1, 1),
   (.releaseStation, 0x15, 1, 1), (.retireStation, 0x16, 1, 1), (.syncStation, 0x17, 1, 1),
   (.tableReset, 0x1F, 0, 1), (.ringInsert, 0x20, 2, 1), (.ringRemove, 0x21, 1, 2),
   (.ringRead, 0x22, 1, 2), (.ringStatus, 0x23, 0, 5), (.pollNow, 0x24, 1, 1),
   (.queueText, 0x30, 1, 2), (.queueGroupText, 0x31, 1, 2), (.cancelText, 0x32, 1, 1),
   (.clearStaging, 0x33, 0, 1), (.readInbound, 0x34, 0, 4), (.releaseInbound, 0x35, 0, 1),
   (.bufferStatus, 0x36, 0, 5), (.nextAttention, 0x40, 0, 9), (.startLine, 0x50, 0, 1),
   (.stopLine, 0x51, 0, 1), (.abortLine, 0x52, 0, 1), (.lineTest, 0x53, 0, 1)]

/-- The last eight bits of those in the window `w` followed by the bits `bits` (R122, R123). -/
def lastEight (w bits : List Bool) : List Bool := (w ++ bits).drop ((w ++ bits).length - 8)

/-- Whether a PARAMETER DATA write of `v` at the index `k` is legal: the ranges of R154 with the format rule of R158. -/
def State.writeIsLegal (s : State) (k : Nat) (v : Octet) : Prop :=
  (k ≤ 6 → s.engine = .stopped) ∧
  match k with
  | 0 => v ≠ 0x00 ∧ v ≠ 0xFF ∧ v ≠ s.params.prefixOctet ∧ v ≠ s.params.prefixOctet ^^^ 0x80
  | 1 => v ≠ 0xFF ∧ v ≠ s.params.leadOctet ∧ v ≠ s.params.leadOctet ^^^ 0x80
  | 2 => 2 ≤ v.toNat ∧ v.toNat ≤ 4
  | 3 => 1 ≤ v.toNat ∧ v.toNat ≤ 4
  | 4 => v.toNat ≤ 1
  | 5 => True
  | 6 => 12 ≤ 256 * v.toNat + s.params.divisorLowHeld.toNat
  | 7 => 2 ≤ v.toNat
  | 8 => 1 ≤ v.toNat
  | 9 => v.toNat ≤ 63
  | 10 => 1 ≤ v.toNat
  | 11 => 1 ≤ v.toNat ∧ v.toNat ≤ 14 ∧ v.toNat < s.params.lostThreshold.toNat
  | 12 => 2 ≤ v.toNat ∧ v.toNat ≤ 15 ∧ s.params.suspectThreshold.toNat < v.toNat
  | 13 => 1 ≤ v.toNat ∧ v.toNat ≤ 15
  | 14 => 1 ≤ v.toNat ∧ v.toNat ≤ 3
  | _ => False

/-- The exchange that begins a visit to the slot (R46, R47, R54). -/
def State.visits (s : State) (i : Slot) (x : Exchange) : Prop :=
  ((s.record i).resyncPending = true ∧ x = .sync i) ∨
  ((s.record i).resyncPending = false ∧ s.textFilled i = true ∧
    ∃ b : BufferNo, (s.record i).outboundText = some b ∧ x = .text i b) ∨
  ((s.record i).resyncPending = false ∧ s.textFilled i = false ∧ x = .poll i)

/-- The attention list after an event that raises the reasons `rs`, possibly none, for the slot (R98). -/
def State.listed (s : State) (i : Slot) (rs : ReasonSet) : List Slot :=
  if rs ≠ 0 ∧ (s.record i).reasons = 0 then s.attention ++ [i] else s.attention

/-- The code of a record's state is the number that R1 and R8 give it. -/
abbrev recordCodesAreNumbered : Prop :=
  Lifecycle.free.code = 0 ∧ (Lifecycle.inService .staged).code = 1 ∧
  (Lifecycle.inService .active).code = 2 ∧ (Lifecycle.inService .suspect).code = 3 ∧
  (Lifecycle.inService .lost).code = 4 ∧ (∀ h : Standing, (Lifecycle.held h).code = 5) ∧
  Lifecycle.retiring.code = 6

/-- The reasons that the end of an exchange adds for a RETIRING record: RETIRED where no inbound text remains (R22). -/
def State.retiredNow (s : State) (i : Slot) : ReasonSet :=
  if (s.record i).inboundCount = 0 then 0x200 else 0

/-! ### Terms for the ends of an exchange -/

/-- A reply to the exchange of the context `c` is judged `j` by the octet `o`, in RECEIVING with DCD active (R127, R141). -/
abbrev State.judges (s : State) (o : Octet) (c : Context) (j : Judgement) : Prop :=
  s.engine = .receiving ∧ s.dcd = true ∧ s.receiver.phase = .body ∧ s.context = some c ∧
    (s.takeOctet o).judgement? = some j

/-- The context ended and SETTLING entered with DCD active, the outcome having been applied (R52, R141, R142). -/
def State.settled (s : State) : State :=
  { s with
    context := none, engine := .settling, receiver := Receiver.off
    settleTimer := some { period := s.params.replyTimeout.toNat, count := 0 } }

/-- A text freed: its buffer is FREE, with BUFFER FREE where buffer-wanted was set (R62, R80). -/
def State.bufferFreed (s : State) (b : BufferNo) : State :=
  { s with
    buffers := s.buffers.set b.val .free
    causeBufferFree := s.causeBufferFree || s.bufferWanted, bufferWanted := false }

/-- A record whose text was freed (R62). -/
def Record.textFreed (r : Record) : Record :=
  { r with outboundText := none, retryCount := 0, cancelRequested := false }

/-- The record `r` set for the slot `i` by an event that raised the reasons `rs`, possibly none, with the slot's place in
the attention list (R98). -/
def State.noted (s : State) (i : Slot) (rs : ReasonSet) (r : Record) : State :=
  { s.setRecord i { r with reasons := r.reasons ||| rs } with attention := s.listed i rs }

/-- The kinds of reply that an exchange expects (R60). -/
def Exchange.expects : Exchange → List Octet
  | .poll _ => [0xA1, 0xA2]
  | .text _ _ => [0xA3, 0xA4]
  | .sync _ => [0xA5]
  | .group _ => []

/-- The ways in which the exchange of the context `c` ends as a miss (R61, R127, R128, R140, R141): the event, the reason
raised beside the miss for a record in service, and the state that the event leaves once the miss has been applied. -/
inductive MissEvent (s : State) (c : Context) : Instr → ReasonSet → (State → State) → Prop
  /-- BAD REPLY: the block is judged BAD. -/
  | badBlock {o : Octet} {e : BlockError} (h : s.judges o c (.bad e)) :
    MissEvent s c (.blockJudged o) 0 State.settled
  /-- BAD REPLY: a GOOD block from another address. -/
  | otherAddress {o k a ctl : Octet} {x : List Octet} (h : s.judges o c (.good k a ctl x))
    (ha : a ≠ c.address) : MissEvent s c (.blockJudged o) 0 State.settled
  /-- BAD REPLY with PROTOCOL: a GOOD block of a kind that the exchange does not expect. -/
  | unexpectedKind {o k ctl : Octet} {x : List Octet} (h : s.judges o c (.good k c.address ctl x))
    (hk : k ∉ c.exchange.expects) : MissEvent s c (.blockJudged o) 0x100 State.settled
  /-- BAD REPLY: DCD falls in RECEIVING, and settling ends in the same event. -/
  | carrierLost (he : s.engine = .receiving) (hd : s.dcd = true) (hc : s.context = some c) :
    MissEvent s c (.dcdChange false) 0 fun u => State.endTurn
      { u with
        dcd := false, lineChange := true, context := none, engine := .settling
        receiver := Receiver.off }
  /-- NO REPLY: the reply timer expires in LISTENING. -/
  | noReply (he : s.engine = .listening) (ht : s.replyTimer.isSome = true)
    (hc : s.context = some c) :
    MissEvent s c .replyTimerExpiry 0 fun u =>
      State.endTurn { u with context := none, replyTimer := none }

/-- The event `e` ends the exchange in progress, if any, ABANDONED, and leaves `finish u`, where `u` is the state with the
outcome applied (R22, R52, R62, R75). A TEXT is returned to FILLED, with resync pending where it was WHOLLY SENT, or, where
its cancel was requested, failed as CANCELLED with resync pending also where it had been retried. A RETIRING record's text is
freed, and RETIRED raised where no inbound text remains. POLL, SYNC and GROUP have no effect on another record or a
buffer. -/
def State.abandonsBy (s : State) (e : Instr) (finish : State → State) : Prop :=
  (s.context = none → exec e s = .next (finish s)) ∧
  ∀ c : Context, s.context = some c →
    (∀ b : BufferNo, c.exchange = .group b → exec e s = .next (finish s)) ∧
    (∀ i : Slot, c.exchange = .poll i ∨ c.exchange = .sync i →
      ((s.record i).state ≠ .retiring → exec e s = .next (finish s)) ∧
      ((s.record i).state = .retiring → (s.record i).outboundText = none →
        exec e s = .next (finish (s.noted i (s.retiredNow i) (s.record i).textFreed)))) ∧
    (∀ (i o : Slot) (b : BufferNo) (x : List Octet), c.exchange = .text i b →
      (s.record i).outboundText = some b → s.buffers[b.val] = .inFlight o x →
      let r := s.record i
      let whole := decide (c.point = .whollySent)
      (r.state.isEnlisted = true → r.cancelRequested = false →
        exec e s = .next (finish
          { s.setRecord i { r with resyncPending := r.resyncPending || whole } with
            buffers := s.buffers.set b.val (.filled o x) })) ∧
      (r.state.isEnlisted = true → r.cancelRequested = true →
        exec e s = .next (finish ((s.bufferFreed b).noted i 0x020
          { r.textFreed with
            resyncPending := r.resyncPending || whole || decide (r.retryCount ≠ 0)
            failureCause := .cancelled }))) ∧
      (r.state = .retiring →
        exec e s = .next (finish ((s.bufferFreed b).noted i (s.retiredNow i) r.textFreed))))

end Sys2Proof.Machine
end

