-- ==== Sys2Proof/Certificates/Slice0/Obligations.lean ====
section
/-! DEFINITION. The statements for the provers, taken from the numbered rules of spec/. Each docstring cites the rules; a
statement that rests on a choice of the model names its log entry. -/

open Sys2Proof Sys2Proof.Machine

/-! ### The queue and the step -/

/-- The step takes the command at the front of the queue and executes it with the queue's rest (the model's
queue, log 9); on an empty queue one octet time passes (the model's choice, log 2). -/
def Obligations.StepTakesTheFrontCommand : Prop :=
  (∀ (s : State) (c : Instr) (rest : List Instr),
    s.pending = c :: rest → step s = exec c { s with pending := rest }) ∧
  (∀ s : State, s.pending = [] → step s = .next s.octetTime)

/-- Every command is taken in every state, with neither a fault nor a refusal, and touches no waiting command
(R175; log 1, log 9). -/
def Obligations.EveryCommandIsTaken : Prop :=
  ∀ (c : Instr) (s : State), ∃ t, exec c s = .next t ∧ t.pending = s.pending

/-- A line command, a port access or any other command leaves STOPPED only as START LINE or LINE TEST, and
FAULT only as START LINE, STOP LINE, ABORT LINE or master reset (R130, R143, R148, R153). -/
def Obligations.LineStaysStoppedOrInFault : Prop :=
  ∀ (c : Instr) (s t : State), exec c s = .next t →
    (s.engine = .stopped → t.engine ≠ .stopped → c = .startLine ∨ c = .lineTest) ∧
    (s.engine = .fault → t.engine ≠ .fault →
      c = .startLine ∨ c = .stopLine ∨ c = .abortLine ∨ c = .masterReset)

/-- In RAISING with CTS inactive and no command waiting, the CTS timer's period passes in RAISING and then
ends in FAULT with code CTS TIMEOUT, the exchange ABANDONED (R134, R137, R143). That an empty queue lets octet
times pass is the model's choice (log 2). -/
def Obligations.RaisingTimesOutAfterItsPeriod : Prop :=
  ∀ (s : State) (p n : Nat), s.EngineWf → s.engine = .raising →
    s.ctsTimer = some { period := p, count := n } → n < p →
    (∀ k, k < p - n → (s.ticks k).engine = .raising) ∧
    (s.ticks (p - n)).engine = .fault ∧ (s.ticks (p - n)).params.lastFault = .ctsTimeout ∧
    (s.ticks (p - n)).context = none ∧ (s.ticks (p - n)).causeLineFault = true

/-! ### Reset -/

/-- The values right after the release of RST#, as far as R177 lists them, with the defaults of the Parameter
File and the FREE values of a record, and that every invariant holds then (R1, R3, R27, R34, R39, R45, R79,
R90, R110, R153, R154, R177). -/
def Obligations.ResetHoldsTheResetValues : Prop :=
  let s := State.reset
  (s.busy = false ∧ s.done = false ∧ s.refused = false ∧ s.statusOctet = 0) ∧
  (s.argumentBlock = [] ∧ s.result = [] ∧ s.resultCursor = 0 ∧ s.command = none) ∧
  (s.staging = [] ∧ s.inboundCursor = 0 ∧ s.paramIndex = 0 ∧ s.params.divisorLowHeld = 0) ∧
  (∀ k : Nat, k < 16 → s.params.readAt (BitVec.ofNat 8 k) =
    [0x96, 0x9A, 2, 1, 0, 0x00, 0x04, 24, 8, 2, 32, 3, 8, 3, 2, 0].getD k 0) ∧
  (s.params.divisor = 1024 ∧ s.params.clockSource = .modem ∧ s.params.lastFault = .none) ∧
  (s.causeOctet = 0 ∧ s.maskOctet = 0 ∧ s.intAsserted = false ∧ s.bufferWanted = false) ∧
  (∀ i : Slot, s.record i =
    { state := .free, address := 0x00, group := none, outToggle := false, inToggle := false
      missCount := 0, retryCount := 0, outboundText := none, cancelRequested := false
      resyncPending := false, lastStatus := none, quietLimit := none, quietCount := 0
      ringCount := 0, inboundCount := 0, reasons := 0, failureCause := .none
      deliveredCount := 0, receivedCount := 0 }) ∧
  (∀ b : BufferNo, s.buffers[b.val] = .free) ∧
  (s.ring = [] ∧ s.ringCursor = 0 ∧ s.urgent = [] ∧ s.probePass = .none ∧ s.probeCursor = 0) ∧
  (s.followOn = none ∧ s.groupQueue = [] ∧ s.inbound = [] ∧ s.attention = []) ∧
  (s.engine = .stopped ∧ s.rtsAsserted = false ∧ s.txd = none ∧ s.context = none) ∧
  s.Wf ∧ s.ResetWf

/-- The fall of RST# gives every block its reset value; while RST# is low every command but its release leaves
all but the modem levels and the data bus as they are, every port reads 0x00 and INT# is released; the release
leaves the rest (R176, R177). That the modem levels, the data bus and the waiting commands outlive the reset
is the model's choice (log 13). -/
def Obligations.MasterResetHoldsEveryBlock : Prop :=
  (∀ s : State, exec .masterReset s = .next
    { State.reset with
      rstLow := true, cts := s.cts, dcd := s.dcd, dataOut := s.dataOut, pending := s.pending }) ∧
  (∀ (c : Instr) (s : State), s.rstLow = true → s.ResetWf → c ≠ .rstReleased →
    ∃ (cts dcd : Bool) (o : Octet),
      exec c s = .next { s with cts := cts, dcd := dcd, dataOut := o }) ∧
  (∀ s : State, s.rstLow = true → s.ResetWf →
    (∀ a : PortAddress, s.portRead a = 0) ∧ s.intAsserted = false) ∧
  (∀ s : State, exec .rstReleased s = .next { s with rstLow := false })

/-! ### What every step keeps -/

/-- The Parameter File never holds an illegal value, whatever is written to it (R117, R154, R159 to R164). -/
def Obligations.ParametersStayLegal : Prop :=
  ∀ s t : State, s.params.Legal → step s = .next t → t.params.Legal

/-- An exchange context exists exactly in RAISING, SENDING, LISTENING and RECEIVING (R51). -/
def Obligations.ContextExactlyInAnExchange : Prop :=
  ∀ s t : State, s.ContextWf → step s = .next t → t.ContextWf

/-- The engine state goes with its timers, its block, its receiver phase, its context and its requests (R119,
R122, R130, R134, R142, R144). -/
def Obligations.EngineStaysConsistent : Prop :=
  ∀ s t : State, s.EngineWf → step s = .next t → t.EngineWf

/-- A slot is in the attention list at most once and exactly while its reason set is not empty, and the
failure cause goes with FAILED (R22, R96, R97). -/
def Obligations.AttentionListMatchesTheReasons : Prop :=
  ∀ s t : State, s.RetiredWf → s.AttentionWf → step s = .next t → t.RetiredWf ∧ t.AttentionWf

/-- The Poll Ring keeps its bounds, its cursor and the ring counts and names no FREE or RETIRING slot; the
urgent list holds at most 4 slots, none twice, each in service (R7, R27, R34, R37). -/
def Obligations.RingAndUrgentListNameStationsInUse : Prop :=
  ∀ s t : State, s.RetiredWf → s.RingWf → s.UrgentWf → step s = .next t →
    t.RetiredWf ∧ t.RingWf ∧ t.UrgentWf

/-- The invariant State.Wf is kept by every step: the parameters' legality, the FREE values, the bounds of a
record's fields, the ring, the urgent list, the probe pass, the attention list, the inbound pair, the outbound
buffers, the engine, the receiver, the addresses and the port, as Safety.lean says of each (R1, R2, R9, R22,
R27, R34, R39, R79, R90, R91, R97, R122). -/
def Obligations.EveryStepKeepsTheInvariant : Prop :=
  ∀ s t : State, s.Wf → step s = .next t → t.Wf

/-! ### Rules over all commands -/

/-- A record becomes FREE in three ways only: NEXT ATTENTION, TABLE RESET and master reset; and it then holds
every FREE value (R2). -/
def Obligations.RecordsBecomeFreeInThreeWays : Prop :=
  ∀ (c : Instr) (s t : State) (i : Slot), exec c s = .next t →
    (s.record i).state ≠ .free → (t.record i).state = .free →
    (c = .nextAttention ∨ c = .tableReset ∨ c = .masterReset) ∧ t.record i = Record.free

/-- One event raises reasons for at most one slot, and appends at most that slot to the attention list (R98). -/
def Obligations.OneEventRaisesForOneSlot : Prop :=
  ∀ (c : Instr) (s t : State), exec c s = .next t →
    ∃ i : Slot,
      (∀ j : Slot, j ≠ i →
        (t.record j).reasons = (s.record j).reasons ∨ (t.record j).reasons = 0) ∧
      (t.attention.filter (· != i)).Sublist s.attention

/-- The last fault code: written by each entry into FAULT with that entry's code, by master reset, and by
nothing else; read at index 0x0F as its number; a data write there is refused and advances the index (R143,
R154, R156, R165). That the octet read stays on the data bus is the model's choice (log 5). -/
def Obligations.LastFaultIsTheLatestFault : Prop :=
  (∀ (c : Instr) (s t : State), exec c s = .next t → s.engine ≠ .fault → t.engine = .fault →
    (c = .ctsTimerExpiry ∧ t.params.lastFault = .ctsTimeout) ∨
    (c = .ctsLost ∧ t.params.lastFault = .ctsLost) ∨
    (c = .settleTimerExpiry ∧ t.params.lastFault = .carrierStuck)) ∧
  (∀ (c : Instr) (s t : State), exec c s = .next t →
    t.params.lastFault ≠ s.params.lastFault →
    (s.engine ≠ .fault ∧ t.engine = .fault) ∨ c = .masterReset) ∧
  (∀ s : State, s.rstLow = false → s.paramIndex = 0x0F →
    exec .parameterDataRead s =
      .next { s with dataOut := s.params.lastFault.code, paramIndex := 0x10 }) ∧
  (FaultCode.none.code = 0 ∧ FaultCode.ctsTimeout.code = 1 ∧ FaultCode.ctsLost.code = 2 ∧
    FaultCode.carrierStuck.code = 3) ∧
  (∀ (s : State) (v : Octet), s.rstLow = false → s.paramIndex = 0x0F →
    exec (.parameterDataWrite v) s = .next { s with paramRefused := true, paramIndex := 0x10 }) ∧
  (∀ s t : State, exec .masterReset s = .next t → t.params.lastFault = .none)

/-- The format parameters change only while the engine is STOPPED, or at master reset (R158). -/
def Obligations.FormatIsFixedWhileTheLineRuns : Prop :=
  ∀ (c : Instr) (s t : State), exec c s = .next t → s.engine ≠ .stopped → c ≠ .masterReset →
    t.params.leadOctet = s.params.leadOctet ∧ t.params.prefixOctet = s.params.prefixOctet ∧
    t.params.leadCount = s.params.leadCount ∧ t.params.padCount = s.params.padCount ∧
    t.params.clockSource = s.params.clockSource ∧ t.params.divisor = s.params.divisor ∧
    t.params.divisorLowHeld = s.params.divisorLowHeld

/-- A command stopped by a check, codes 0x10 to 0x22, changes nothing in any block but the port, except that
NO BUFFER sets buffer-wanted; its data octets are 0x00 (R171, R173, R174). -/
def Obligations.RefusedCommandsChangeNothing : Prop :=
  ∀ (c : Instr) (s t : State) (k : Octet), exec c s = .next t →
    s.command.isSome = true → t.command = none → t.result.head? = some k →
    0x10 ≤ k.toNat → k.toNat ≤ 0x22 →
    (k ≠ 0x1D → t = s.answered t.result) ∧
    (k = 0x1D → t = { s.answered t.result with bufferWanted := true }) ∧
    (∀ o ∈ t.result.tail, o = 0)

/-! ### The line form of a block -/

/-- Decode and encode agree: the receiver, put into BODY, takes any number of further LEAD octets and the line
form of a block with any legal LEAD and PREFIX, and judges it GOOD at its last octet, and not before, with the
kind, ADDRESS, CONTROL and text that were sent; it is then in ENDED with every octet of the body and the CRC
counted and no escape open (R111, R115, R116, R118, R122, R124 to R127, R129). -/
def Obligations.EveryLineFormIsReceivedGood : Prop :=
  ∀ (lead pre : Octet) (testing : Bool) (n : Nat) (kind address control : Octet)
    (text : List Octet),
    legalPair lead pre = true → validKind testing kind = true →
    (kindHasLength kind = true → 1 ≤ text.length ∧ text.length ≤ 128) →
    (kind = kindStatus → text.length = 1) → (kindHasLength kind = false → text = []) →
    let body := blockBody kind address control (if kindHasLength kind then some text else none)
    let form := List.replicate n lead ++ escapeAll lead pre (withCrc body)
    let takes := Receiver.startHunt.enterBody.takeAll lead pre testing
    (∃ rx : Receiver, takes form = .judged rx (.good kind address control text) ∧
      rx.phase = .ended ∧ rx.escapeOpen = false ∧ rx.decoded = body.length + 2) ∧
    (∃ rx : Receiver, takes form.dropLast = .more rx)

/-- Between the lead and the pads a block never holds the LEAD value, nor a PREFIX that does not open an
escape pair, and an escaped octet takes two line octets (R111, R116, R117). -/
def Obligations.LineFormIsTransparent : Prop :=
  ∀ (lead pre : Octet) (os : List Octet), legalPair lead pre = true →
    lead ∉ escapeAll lead pre os ∧
    (∀ k : Nat, (escapeAll lead pre os)[k]? = some pre →
      (escapeAll lead pre os)[k + 1]? = some (lead ^^^ 0x80) ∨
      (escapeAll lead pre os)[k + 1]? = some (pre ^^^ 0x80)) ∧
    (escapeAll lead pre os).length =
      os.length + os.countP fun o => o == lead || o == pre

/-- The CRC of a body with its two CRC octets behind it is 0, as it is for a CRC without final inversion, so
no other pair of octets behind the same body gives 0 (R118). -/
def Obligations.CrcOfABlockLeavesZero : Prop :=
  ∀ (body : List Octet) (high low : Octet),
    crcOf (body ++ [high, low]) = 0 ↔
      high = highOctet (crcOf body) ∧ low = lowOctet (crcOf body)

/-! ### Host port -/

/-- A COMMAND write while BUSY is clear is accepted, whatever the code: the arguments, their count and the
state of ARGUMENT OVERFLOW are copied, and the argument block, DONE, REFUSED, the DONE cause and the result
block are cleared (R169). -/
def Obligations.AcceptanceCopiesTheArguments : Prop :=
  ∀ (s : State) (code : Octet), s.rstLow = false → s.command = none →
    exec (.acceptance code) s = .next
      { s with
        command := some { code := code, args := s.argumentBlock, overflow := s.argumentOverflow }
        argumentBlock := [], argumentOverflow := false, done := false, refused := false
        causeDone := false, result := [], resultCursor := 0 }

/-- The port writes that are no command: a COMMAND write while BUSY sets REFUSED alone; ARGUMENT and STAGING
TEXT writes store an octet while there is room and set their overflow flag otherwise; CAUSE CLEAR clears the
sticky causes written 1; MASK takes bits 0 to 6; a write to port 7 changes nothing (R77, R106, R108, R166,
R168, R170). -/
def Obligations.PortWritesReachTheirOwnState : Prop :=
  ∀ (s : State) (o : Octet), s.rstLow = false →
    (s.command.isSome = true → exec (.acceptance o) s = .next { s with refused := true }) ∧
    (s.argumentBlock.length < 8 → exec (.argumentWrite o) s =
      .next { s with argumentBlock := s.argumentBlock ++ [o] }) ∧
    (8 ≤ s.argumentBlock.length →
      exec (.argumentWrite o) s = .next { s with argumentOverflow := true }) ∧
    (s.staging.length < 128 → exec (.stagingTextWrite o) s =
      .next { s with staging := s.staging ++ [o] }) ∧
    (128 ≤ s.staging.length →
      exec (.stagingTextWrite o) s = .next { s with stagingOverflow := true }) ∧
    (∃ t, exec (.causeClearWrite o) s = .next t ∧
      t.causeOctet = s.causeOctet &&& ~~~(o &&& 0x7C) ∧
      t = { s with
        causeDone := t.causeDone, causeBufferFree := t.causeBufferFree
        causeLineStopped := t.causeLineStopped, causeLineFault := t.causeLineFault
        lineChange := t.lineChange }) ∧
    (∃ t, exec (.maskWrite o) s = .next t ∧ t.maskOctet = o &&& 0x7F ∧
      t = { s with mask := t.mask }) ∧
    exec (.lineStatusPortWrite o) s = .next s

/-- The port reads that are rows of the table: RESULT, INBOUND TEXT, PARAMETER DATA and LINE STATUS return
what the state holds at the read and advance their own cursor, or clear the line change flag; LINE STATUS shows
the engine state by its number (R91, R130, R152, R156, R173). That the octet stays on the data bus is the
model's choice (log 5). -/
def Obligations.PortReadsReturnAndAdvance : Prop :=
  ([EngineState.stopped, .gap, .ready, .raising, .sending, .listening, .receiving, .settling, .fault,
    .testing].map EngineState.code = [0, 1, 2, 3, 4, 5, 6, 7, 8, 9]) ∧
  ∀ s : State, s.rstLow = false →
    (∀ o : Octet, s.result[s.resultCursor]? = some o → exec .resultRead s =
      .next { s with dataOut := o, resultCursor := s.resultCursor + 1 }) ∧
    (s.result.length ≤ s.resultCursor →
      exec .resultRead s = .next { s with dataOut := 0 }) ∧
    (∀ (x : InboundText) (rest : List InboundText) (o : Octet), s.inbound = x :: rest →
      x.text[s.inboundCursor]? = some o → exec .inboundTextRead s =
        .next { s with dataOut := o, inboundCursor := s.inboundCursor + 1 }) ∧
    ((∀ x ∈ s.inbound.head?, x.text.length ≤ s.inboundCursor) →
      exec .inboundTextRead s = .next { s with dataOut := 0 }) ∧
    exec .parameterDataRead s = .next
      { s with
        paramIndex := s.paramIndex + 1
        dataOut :=
          [s.params.leadOctet, s.params.prefixOctet, s.params.leadCount, s.params.padCount,
           if s.params.clockSource = .modem then 0 else 1, s.params.divisor.setWidth 8,
           (s.params.divisor >>> 8).setWidth 8, s.params.replyTimeout, s.params.ctsTimeout,
           s.params.turnaroundGap, s.params.probeInterval, s.params.suspectThreshold,
           s.params.lostThreshold, s.params.retryLimit, s.params.groupRepeat,
           s.params.lastFault.code].getD s.paramIndex.toNat 0 } ∧
    (∃ o : Octet, exec .lineStatusRead s = .next { s with dataOut := o, lineChange := false } ∧
      o.toNat = 16 * s.engine.code.toNat + 8 * s.lineChange.toNat + 4 * s.dcd.toNat +
        2 * s.cts.toNat + s.rtsAsserted.toNat)

/-- INT# is asserted exactly while a cause is high whose MASK bit is 1, and a cause's bit in CAUSE is its own
flag, list or pair (R103, R104, R108, R109). -/
def Obligations.InterruptFollowsTheMaskedCauses : Prop :=
  ∀ s : State,
    (s.intAsserted = true ↔ ∃ k : Nat, k < 7 ∧ s.causeOctet.getLsbD k = true ∧
      s.maskOctet.getLsbD k = true) ∧
    (s.causeOctet.getLsbD 0 = true ↔ s.attention ≠ []) ∧
    (s.causeOctet.getLsbD 1 = true ↔ s.inbound ≠ []) ∧
    s.causeOctet.getLsbD 2 = s.causeDone ∧ s.causeOctet.getLsbD 3 = s.causeBufferFree ∧
    s.causeOctet.getLsbD 4 = s.causeLineStopped ∧ s.causeOctet.getLsbD 5 = s.causeLineFault ∧
    s.causeOctet.getLsbD 6 = s.lineChange ∧ s.causeOctet.getLsbD 7 = false

/-- A write to PARAMETER INDEX sets the index to any octet and changes nothing else; a read returns it; the
data accesses advance it, from 0xFF to 0x00 (R155). -/
def Obligations.ParameterIndexIsWrittenAndAdvances : Prop :=
  ∀ (s : State) (o : Octet), s.rstLow = false →
    exec (.parameterIndexWrite o) s = .next { s with paramIndex := o } ∧
    s.portRead 5 = s.paramIndex ∧
    (∀ t, exec .parameterDataRead s = .next t → t.paramIndex = s.paramIndex + 1) ∧
    (∀ t, exec (.parameterDataWrite o) s = .next t → t.paramIndex = s.paramIndex + 1) ∧
    (0xFF + 1 : Octet) = 0x00

/-- A PARAMETER DATA write is taken exactly when it is legal: the parameter at the index then reads as
written, or the held divisor low octet takes it at index 0x05, every other parameter keeps its value, and
PARAMETER REFUSED is cleared; a refused write changes no parameter and sets PARAMETER REFUSED; the index
advances either way (R157 to R164). The pair of LEAD and PREFIX held is legal, as R117 says it always is. -/
def Obligations.ParameterWritesAreJudged : Prop :=
  ∀ (s : State) (v : Octet), s.rstLow = false → s.params.Legal →
    (¬ s.writeIsLegal s.paramIndex.toNat v → exec (.parameterDataWrite v) s =
      .next { s with paramRefused := true, paramIndex := s.paramIndex + 1 }) ∧
    (s.writeIsLegal s.paramIndex.toNat v → ∃ p : Params,
      exec (.parameterDataWrite v) s =
        .next { s with params := p, paramRefused := false, paramIndex := s.paramIndex + 1 } ∧
      (s.paramIndex = 0x05 → p = { s.params with divisorLowHeld := v }) ∧
      (s.paramIndex = 0x06 → p = { s.params with divisor := v ++ s.params.divisorLowHeld }) ∧
      (s.paramIndex ≠ 0x05 → p.readAt s.paramIndex = v) ∧
      (s.paramIndex ≠ 0x05 → s.paramIndex ≠ 0x06 →
        p.divisorLowHeld = s.params.divisorLowHeld ∧
        ∀ j : Octet, j ≠ s.paramIndex → p.readAt j = s.params.readAt j))

/-- An accepted code that is none of the command table's completes with UNKNOWN COMMAND, result length 1; a
command of the table with a wrong number of arguments, or accepted with ARGUMENT OVERFLOW set, completes with
ARGUMENTS and its own result length, before any check of its own; neither changes anything but the port (R11,
R28, R81, R145, R171, R173). That each of the four MODIFY STATION rows answers a MODIFY STATION so stopped is
the model's choice (log 8). -/
def Obligations.CommandsAreJudgedByCodeThenArguments : Prop :=
  (∀ (s : State) (k : Command), s.command = some k → isCommandCode k.code = false →
    s.refuses .unknownCommand 0x10 0) ∧
  (∀ (s : State) (k : Command) (row : Instr × Octet × Nat × Nat), s.command = some k →
    s.lineTest = none →
    row ∈ commandRows →
    k.code = row.2.1 → k.overflow = true ∨ k.args.length ≠ row.2.2.1 →
    isCommandCode k.code = true ∧ s.refuses row.1 0x11 (row.2.2.2 - 1))

/-! ### Station Table -/

/-- ADMIT STATION with a legal address that no record in use holds places it, STAGED, into the lowest FREE
slot, every other field at its FREE value, and appends the slot to an urgent list of fewer than 4 slots (R12,
R35). -/
def Obligations.AdmitStationTakesTheLowestFreeSlot : Prop :=
  ∀ (s : State) (a g q : Octet) (i : Slot), s.inHand 0x10 [a, g, q] →
    1 ≤ a.toNat → a.toNat ≤ 0xEF → (g = 0 ∨ (0xF0 ≤ g.toNat ∧ g.toNat ≤ 0xFE)) →
    (∀ j : Slot, (s.record j).state ≠ .free → (s.record j).address ≠ a) →
    (s.record i).state = .free → (∀ j : Slot, j < i → (s.record j).state ≠ .free) →
    exec .admitStation s = .next (State.answered
      { s.setRecord i
          { Record.free with
            state := .inService .staged, address := a
            group := if g = 0 then none else some g
            quietLimit := if q = 0 then none else some q } with
        urgent := if s.urgent.length < 4 then s.urgent ++ [i] else s.urgent }
      [0x00, slotOctet i, if s.urgent.length < 4 then 1 else 0])

/-- FIND STATION: BAD ADDRESS for a value that is no individual address, NOT FOUND where no record in use
holds it, and otherwise the one slot that does, with its state code 0 to 6; nothing but the port changes (R10,
with R9 for the one slot and R8 for the codes). -/
def Obligations.FindStationAnswersByAddress : Prop :=
  recordCodesAreNumbered ∧ ∀ (s : State) (a : Octet), s.inHand 0x11 [a] →
    ((a.toNat = 0 ∨ 0xEF < a.toNat) → s.refuses .findStation 0x13 2) ∧
    (1 ≤ a.toNat → a.toNat ≤ 0xEF →
      (∀ j : Slot, (s.record j).state ≠ .free → (s.record j).address ≠ a) →
      s.refuses .findStation 0x14 2) ∧
    (∀ i : Slot, 1 ≤ a.toNat → a.toNat ≤ 0xEF → s.AddressWf → (s.record i).state ≠ .free →
      (s.record i).address = a →
      exec .findStation s = .next (s.answered [0x00, slotOctet i, (s.record i).state.code]))

/-- READ STATION returns the sixteen octets of the record, in any state and with the state's code 0 to 6, and
changes nothing but the port (R4, R8, R13). -/
def Obligations.ReadStationReportsTheRecord : Prop :=
  recordCodesAreNumbered ∧ ∀ (s : State) (i : Slot), s.inHand 0x12 [slotOctet i] →
    let r := s.record i
    exec .readStation s = .next (s.answered
      [0x00, r.state.code, r.address, r.group.getD 0,
       BitVec.ofNat 8 (r.resyncPending.toNat + 2 * r.outboundText.isSome.toNat +
         4 * r.cancelRequested.toNat + 8 * r.lastStatus.isSome.toNat +
         16 * r.quietLimit.isSome.toNat + 32 * (s.textInFlight i).toNat),
       octetOfNat r.missCount, octetOfNat r.retryCount,
       (r.outboundText.map fun b => octetOfNat b.val).getD 0xFF, r.lastStatus.getD 0,
       octetOfNat r.ringCount, octetOfNat r.inboundCount, r.quietLimit.getD 0,
       octetOfNat r.quietCount, (r.deliveredCount >>> 8).setWidth 8, r.deliveredCount.setWidth 8,
       (r.receivedCount >>> 8).setWidth 8, r.receivedCount.setWidth 8])

/-- MODIFY STATION changes the one field it names, and SYNC STATION sets resync pending; nothing else changes
but the port (R14 to R18, R76). -/
def Obligations.OneRecordCommandsChangeOneField : Prop :=
  ∀ (s : State) (i : Slot) (v : Octet),
    (s.inHand 0x13 [slotOctet i, 1, v] →
      (s.record i).state = .inService .staged ∨ (s.record i).state = .inService .lost →
      1 ≤ v.toNat → v.toNat ≤ 0xEF →
      (∀ j : Slot, j ≠ i → (s.record j).state ≠ .free → (s.record j).address ≠ v) →
      exec .modifyStationAddress s = .next
        ((s.modRecord i fun r => { r with address := v }).answered [0x00])) ∧
    (∀ h : Standing, s.inHand 0x13 [slotOctet i, 1, v] → (s.record i).state = .held h →
      1 ≤ v.toNat → v.toNat ≤ 0xEF →
      (∀ j : Slot, j ≠ i → (s.record j).state ≠ .free → (s.record j).address ≠ v) →
      exec .modifyStationAddress s = .next
        ((s.modRecord i fun r => { r with address := v, resyncPending := true }).answered
          [0x00])) ∧
    (s.inHand 0x13 [slotOctet i, 2, v] → (s.record i).state.isEnlisted = true →
      v = 0 ∨ (0xF0 ≤ v.toNat ∧ v.toNat ≤ 0xFE) →
      exec .modifyStationGroup s = .next
        ((s.modRecord i fun r => { r with group := if v = 0 then none else some v }).answered
          [0x00])) ∧
    (s.inHand 0x13 [slotOctet i, 3, v] → (s.record i).state.isEnlisted = true →
      exec .modifyStationQuietLimit s = .next
        ((s.modRecord i fun r =>
          { r with quietLimit := if v = 0 then none else some v, quietCount := 0 }).answered
          [0x00])) ∧
    (s.inHand 0x13 [slotOctet i, 4, v] → (s.record i).state.isEnlisted = true →
      exec .modifyStationClearCounters s = .next
        ((s.modRecord i fun r => { r with deliveredCount := 0, receivedCount := 0 }).answered
          [0x00])) ∧
    (s.inHand 0x17 [slotOctet i] →
      (s.record i).state.isVisited = true ∨ (∃ h, (s.record i).state = .held h) →
      exec .syncStation s = .next
        ((s.modRecord i fun r => { r with resyncPending := true }).answered [0x00]))

/-- HOLD STATION takes a station in service to HELD with the standing it left and off the urgent list; RELEASE
STATION returns it by held-from; nothing else changes but the port (R19, R20, R35, R37). -/
def Obligations.HoldAndReleaseMoveTheStation : Prop :=
  ∀ (s : State) (i : Slot),
    (∀ h : Standing, s.inHand 0x14 [slotOctet i] → (s.record i).state = .inService h →
      exec .holdStation s = .next (State.answered
        { s.modRecord i (fun r => { r with state := .held h }) with
          urgent := s.urgent.filter (· != i) } [0x00])) ∧
    (s.inHand 0x15 [slotOctet i] →
      (s.record i).state = .held .active ∨ (s.record i).state = .held .suspect →
      exec .releaseStation s = .next
        ((s.modRecord i fun r =>
          { r with state := .inService .active, missCount := 0, resyncPending := true }).answered
          [0x00])) ∧
    (s.inHand 0x15 [slotOctet i] → (s.record i).state = .held .staged →
      exec .releaseStation s = .next (State.answered
        { s.modRecord i (fun r => { r with state := .inService .staged }) with
          urgent := if s.urgent.length < 4 then s.urgent ++ [i] else s.urgent } [0x00])) ∧
    (s.inHand 0x15 [slotOctet i] → (s.record i).state = .held .lost →
      exec .releaseStation s = .next
        ((s.modRecord i fun r => { r with state := .inService .lost }).answered [0x00]))

/-- RETIRE STATION makes a record RETIRING, purges its ring, urgent and attention entries and its reasons,
frees a FILLED text with its BUFFER FREE, leaves one IN FLIGHT, and raises RETIRED if no exchange and no
inbound text remains; every other record and block keeps its state (R21, R22, R80, R99). -/
def Obligations.RetireStationPurgesTheSlot : Prop :=
  ∀ (s : State) (i : Slot), s.inHand 0x16 [slotOctet i] →
    (s.record i).state.isEnlisted = true →
    let r := s.record i
    let filled := s.textFilled i
    let gone := r.inboundCount = 0 ∧ s.contextNames i = false
    ∃ t : State, exec .retireStation s = .next t ∧
      t.record i =
        { r with
          state := .retiring, ringCount := 0, failureCause := .none
          reasons := if gone then 0x200 else 0
          outboundText := if filled then none else r.outboundText
          retryCount := if filled then 0 else r.retryCount
          cancelRequested := if filled then false else r.cancelRequested } ∧
      (∀ j : Slot, j ≠ i → t.record j = s.record j) ∧
      t.ring = s.ring.filter (· != i) ∧ t.urgent = s.urgent.filter (· != i) ∧
      t.attention = s.attention.filter (· != i) ++ (if gone then [i] else []) ∧
      (∀ b : BufferNo, t.buffers[b.val] =
        if filled = true ∧ r.outboundText = some b then .free else s.buffers[b.val]) ∧
      t.causeBufferFree = (s.causeBufferFree || (filled && s.bufferWanted)) ∧
      t.bufferWanted = (s.bufferWanted && !filled) ∧
      t = State.answered
        { s with
          records := t.records, ring := t.ring, ringCursor := t.ringCursor, urgent := t.urgent
          attention := t.attention, buffers := t.buffers, causeBufferFree := t.causeBufferFree
          bufferWanted := t.bufferWanted } [0x00]

/-- The ring cursor after the retire purge: it names the first surviving entry at or after the entry it named,
wrapping to the head, or 0 where none survives (R31). -/
def Obligations.RetirePurgeKeepsTheCursorsPlace : Prop :=
  ∀ (s t : State) (i : Slot), s.inHand 0x16 [slotOctet i] →
    (s.record i).state.isEnlisted = true → s.ringCursor < s.ring.length →
    exec .retireStation s = .next t →
    t.ring = s.ring.filter (· != i) ∧
    t.ringCursor =
      (if ((s.ring.take s.ringCursor).filter (· != i)).length < t.ring.length then
        ((s.ring.take s.ringCursor).filter (· != i)).length
      else 0)

/-- TABLE RESET while STOPPED returns the table, the ring, the lists and the buffers to the empty state in one
event, and changes neither the parameters, MASK, the other causes, the engine nor the port's own cursors; in
every other engine state it completes with LINE RUNNING (R2, R26, R78, R80, R110). -/
def Obligations.TableResetEmptiesTheTable : Prop :=
  ∀ s : State, s.inHand 0x1F [] →
    (s.engine = .stopped → exec .tableReset s = .next (State.answered
      { s with
        records := State.reset.records, ring := [], ringCursor := 0, urgent := []
        probePass := .none, probeCursor := 0, followOn := none
        buffers := State.reset.buffers, groupQueue := [], inbound := [], inboundCursor := 0
        staging := [], stagingOverflow := false, bufferWanted := false, attention := [] }
      [0x00])) ∧
    (s.engine ≠ .stopped → s.refuses .tableReset 0x21 0)

/-- Every command that takes a slot checks it first: a slot argument above 39 gives BAD SLOT. The further
checks of the Station Table's commands follow, each met with the checks before it passed. None changes
anything but the port (R11, R12, R14 to R16, R19 to R21, R25, R76). That each of the four MODIFY STATION rows
answers BAD FIELD is the model's choice (log 8). -/
def Obligations.StationCommandsAreRefused : Prop :=
  (∀ (s : State) (x p v : Octet), 40 ≤ x.toNat →
    (s.inHand 0x12 [x] → s.refuses .readStation 0x12 16) ∧
    (s.inHand 0x13 [x, 1, v] → s.refuses .modifyStationAddress 0x12 0) ∧
    (s.inHand 0x13 [x, 2, v] → s.refuses .modifyStationGroup 0x12 0) ∧
    (s.inHand 0x13 [x, 3, v] → s.refuses .modifyStationQuietLimit 0x12 0) ∧
    (s.inHand 0x13 [x, 4, v] → s.refuses .modifyStationClearCounters 0x12 0) ∧
    (s.inHand 0x14 [x] → s.refuses .holdStation 0x12 0) ∧
    (s.inHand 0x15 [x] → s.refuses .releaseStation 0x12 0) ∧
    (s.inHand 0x16 [x] → s.refuses .retireStation 0x12 0) ∧
    (s.inHand 0x17 [x] → s.refuses .syncStation 0x12 0) ∧
    (s.inHand 0x20 [p, x] → s.refuses .ringInsert 0x12 0) ∧
    (s.inHand 0x24 [x] → s.refuses .pollNow 0x12 0) ∧
    (s.inHand 0x30 [x] → s.refuses .queueText 0x12 1) ∧
    (s.inHand 0x32 [x] → s.refuses .cancelText 0x12 0)) ∧
  (∀ (s : State) (a g q v : Octet) (i : Slot),
    (s.inHand 0x10 [a, g, q] →
      (a.toNat = 0 ∨ 0xEF < a.toNat ∨ (g ≠ 0 ∧ (g.toNat < 0xF0 ∨ g = 0xFF))) →
      s.refuses .admitStation 0x13 2) ∧
    (s.inHand 0x10 [a, g, q] → 1 ≤ a.toNat → a.toNat ≤ 0xEF →
      (g = 0 ∨ (0xF0 ≤ g.toNat ∧ g.toNat ≤ 0xFE)) →
      ((s.record i).state ≠ .free → (s.record i).address = a → s.refuses .admitStation 0x15 2) ∧
      ((∀ j : Slot, (s.record j).state ≠ .free ∧ (s.record j).address ≠ a) →
        s.refuses .admitStation 0x16 2)) ∧
    (s.inHand 0x13 [slotOctet i, q, v] → q.toNat = 0 ∨ 4 < q.toNat →
      s.refuses .modifyStationAddress 0x22 0 ∧ s.refuses .modifyStationGroup 0x22 0 ∧
      s.refuses .modifyStationQuietLimit 0x22 0 ∧ s.refuses .modifyStationClearCounters 0x22 0) ∧
    ((s.record i).state.isEnlisted = false →
      (s.inHand 0x13 [slotOctet i, 1, v] → s.refuses .modifyStationAddress 0x17 0) ∧
      (s.inHand 0x13 [slotOctet i, 2, v] → s.refuses .modifyStationGroup 0x17 0) ∧
      (s.inHand 0x13 [slotOctet i, 3, v] → s.refuses .modifyStationQuietLimit 0x17 0) ∧
      (s.inHand 0x13 [slotOctet i, 4, v] → s.refuses .modifyStationClearCounters 0x17 0)) ∧
    (s.inHand 0x13 [slotOctet i, 1, v] → (s.record i).state.isVisited = true →
      s.refuses .modifyStationAddress 0x17 0) ∧
    (s.inHand 0x13 [slotOctet i, 1, v] →
      (s.record i).state.isProbed = true ∨ (∃ h, (s.record i).state = .held h) →
      (v.toNat = 0 ∨ 0xEF < v.toNat → s.refuses .modifyStationAddress 0x13 0) ∧
      (∀ j : Slot, 1 ≤ v.toNat → v.toNat ≤ 0xEF → j ≠ i → (s.record j).state ≠ .free →
        (s.record j).address = v → s.refuses .modifyStationAddress 0x15 0)) ∧
    (s.inHand 0x13 [slotOctet i, 2, v] → (s.record i).state.isEnlisted = true →
      v ≠ 0 ∧ (v.toNat < 0xF0 ∨ v = 0xFF) → s.refuses .modifyStationGroup 0x13 0) ∧
    (s.inHand 0x14 [slotOctet i] →
      ((∃ h, (s.record i).state = .held h) → s.refuses .holdStation 0x18 0) ∧
      ((s.record i).state.isEnlisted = false → s.refuses .holdStation 0x17 0)) ∧
    (s.inHand 0x15 [slotOctet i] → (∀ h, (s.record i).state ≠ .held h) →
      s.refuses .releaseStation 0x17 0) ∧
    (s.inHand 0x16 [slotOctet i] →
      ((s.record i).state = .retiring → s.refuses .retireStation 0x18 0) ∧
      ((s.record i).state = .free → s.refuses .retireStation 0x17 0)) ∧
    (s.inHand 0x17 [slotOctet i] →
      (s.record i).state.isProbed = true ∨ (s.record i).state.isEnlisted = false →
      s.refuses .syncStation 0x17 0))

/-! ### Poll Ring and urgent list -/

/-- RING INSERT places the entry before position p, counts it in the record and moves the cursor so that it
names the entry it named before. RING REMOVE takes the entry at position p out, counts it off its record, and
leaves the cursor on the entry it named, or on the next in ring order where that entry is gone; a position at
or past the end gives BAD POSITION. Nothing else changes but the port (R29, R30). -/
def Obligations.RingEditsKeepTheCursorsPlace : Prop :=
  (∀ (s : State) (p : Octet) (i : Slot), s.inHand 0x20 [p, slotOctet i] →
    (s.record i).state.isEnlisted = true → p.toNat ≤ s.ring.length → s.ring.length < 64 →
    (s.record i).ringCount < 4 → (s.ring = [] → s.ringCursor = 0) →
    ∃ t : State, exec .ringInsert s = .next t ∧
      t = State.answered
        { s.modRecord i (fun r => { r with ringCount := r.ringCount + 1 }) with
          ring := s.ring.take p.toNat ++ i :: s.ring.drop p.toNat
          ringCursor :=
            if s.ring = [] then 0
            else if p.toNat ≤ s.ringCursor then s.ringCursor + 1
            else s.ringCursor } [0x00] ∧
      (s.ringCursor < s.ring.length → t.ring[t.ringCursor]? = s.ring[s.ringCursor]?)) ∧
  (∀ (s : State) (p : Octet), s.inHand 0x21 [p] →
    (s.ring.length ≤ p.toNat → s.refuses .ringRemove 0x1B 1) ∧
    (∀ i : Slot, s.ring[p.toNat]? = some i → ∃ t : State, exec .ringRemove s = .next t ∧
      t = State.answered
        { s.modRecord i (fun r => { r with ringCount := r.ringCount - 1 }) with
          ring := s.ring.eraseIdx p.toNat
          ringCursor :=
            if s.ring.length = 1 then 0
            else if p.toNat < s.ringCursor then s.ringCursor - 1
            else if p.toNat = s.ringCursor ∧ s.ringCursor = s.ring.length - 1 then 0
            else s.ringCursor } [0x00, slotOctet i] ∧
      (s.ringCursor < s.ring.length → t.ring ≠ [] →
        t.ring[t.ringCursor]? =
          if p.toNat = s.ringCursor then s.ring[(s.ringCursor + 1) % s.ring.length]?
          else s.ring[s.ringCursor]?)))

/-- RING READ, RING STATUS and BUFFER STATUS report without changing anything but the port (R32, R89). -/
def Obligations.ReportsChangeNothing : Prop :=
  ∀ (s : State) (p : Octet),
    (∀ i : Slot, s.inHand 0x22 [p] → s.ring[p.toNat]? = some i →
      exec .ringRead s = .next (s.answered [0x00, slotOctet i])) ∧
    (s.inHand 0x22 [p] → s.ring.length ≤ p.toNat → s.refuses .ringRead 0x1B 1) ∧
    (s.inHand 0x23 [] → exec .ringStatus s = .next (s.answered
      [0x00, octetOfNat s.ring.length, octetOfNat s.ringCursor, octetOfNat s.urgent.length,
       match s.probePass with
        | .none => 0
        | .pending => 1
        | .inProgress => 2])) ∧
    (s.inHand 0x36 [] → exec .bufferStatus s = .next (s.answered
      [0x00, octetOfNat (s.buffers.toList.count .free), octetOfNat s.groupQueue.length,
       octetOfNat s.inbound.length, octetOfNat s.staging.length]))

/-- POLL NOW appends a slot in service to the tail of the urgent list and changes no record; the checks of
RING INSERT and POLL NOW answer in their order (R29, R36). -/
def Obligations.PollNowAppendsTheSlot : Prop :=
  ∀ (s : State) (p : Octet) (i : Slot),
    (s.inHand 0x24 [slotOctet i] →
      ((s.record i).state.isInService = false → s.refuses .pollNow 0x17 0) ∧
      ((s.record i).state.isInService = true → i ∈ s.urgent → s.refuses .pollNow 0x18 0) ∧
      ((s.record i).state.isInService = true → i ∉ s.urgent → 4 ≤ s.urgent.length →
        s.refuses .pollNow 0x1C 0) ∧
      ((s.record i).state.isInService = true → i ∉ s.urgent → s.urgent.length < 4 →
        exec .pollNow s = .next ({ s with urgent := s.urgent ++ [i] }.answered [0x00]))) ∧
    (s.inHand 0x20 [p, slotOctet i] →
      ((s.record i).state.isEnlisted = false → s.refuses .ringInsert 0x17 0) ∧
      ((s.record i).state.isEnlisted = true → s.ring.length < p.toNat →
        s.refuses .ringInsert 0x1B 0) ∧
      ((s.record i).state.isEnlisted = true → p.toNat ≤ s.ring.length → 64 ≤ s.ring.length →
        s.refuses .ringInsert 0x19 0) ∧
      ((s.record i).state.isEnlisted = true → p.toNat ≤ s.ring.length → s.ring.length < 64 →
        4 ≤ (s.record i).ringCount → s.refuses .ringInsert 0x1A 0))

/-! ### Text Store -/

/-- QUEUE TEXT and QUEUE GROUP TEXT move the staging text into the lowest-numbered FREE buffer, for a slot as
FILLED or for a group address as GROUP with the Group Repeat then held, and empty the staging buffer; CLEAR
STAGING empties it and touches no buffer (R78, R82, R84, R85, R88). -/
def Obligations.StagingTextIsQueuedOrCleared : Prop :=
  (∀ s : State, s.inHand 0x33 [] → exec .clearStaging s = .next
    ({ s with staging := [], stagingOverflow := false }.answered [0x00])) ∧
  (∀ (s : State) (b : BufferNo), s.buffers[b.val] = .free →
    (∀ d : BufferNo, d < b → s.buffers[d.val] ≠ .free) → s.staging ≠ [] →
    s.stagingOverflow = false →
    (∀ i : Slot, s.inHand 0x30 [slotOctet i] →
      (s.record i).state.isEnlisted = true → (s.record i).state ≠ .inService .lost →
      (s.record i).outboundText = none →
      exec .queueText s = .next (State.answered
        { s.modRecord i (fun r =>
            { r with outboundText := some b, retryCount := 0, cancelRequested := false }) with
          buffers := s.buffers.set b.val (.filled i s.staging), staging := [] }
        [0x00, octetOfNat b.val])) ∧
    (∀ a : Octet, s.inHand 0x31 [a] → 0xF0 ≤ a.toNat →
      exec .queueGroupText s = .next (State.answered
        { s with
          buffers := s.buffers.set b.val (.group a s.staging s.params.groupRepeat.toNat)
          groupQueue := s.groupQueue ++ [b], staging := [] }
        [0x00, octetOfNat b.val])))

/-- CANCEL TEXT frees a FILLED text at once, with BUFFER FREE where buffer-wanted is set and resync pending
where the text had been sent before, and answers CANCELLED; for a text IN FLIGHT it sets cancel requested and
answers PENDING (R80, R86). -/
def Obligations.CancelTextWithdrawsTheText : Prop :=
  ∀ (s : State) (i o : Slot) (b : BufferNo) (x : List Octet), s.inHand 0x32 [slotOctet i] →
    (s.record i).state ≠ .free → (s.record i).outboundText = some b →
    (s.buffers[b.val] = .filled o x → exec .cancelText s = .next (State.answered
      { s.modRecord i (fun r =>
          { r with
            outboundText := none, retryCount := 0, cancelRequested := false
            resyncPending := r.resyncPending || decide (0 < r.retryCount) }) with
        buffers := s.buffers.set b.val .free
        causeBufferFree := s.causeBufferFree || s.bufferWanted
        bufferWanted := false } [0x02])) ∧
    (s.buffers[b.val] = .inFlight o x → exec .cancelText s = .next
      ((s.modRecord i fun r => { r with cancelRequested := true }).answered [0x01]))

/-- READ INBOUND reports the head text and rewinds the cursor; RELEASE INBOUND gives the head back, counts it
off its record and raises RETIRED where it was the last inbound text of a RETIRING record with no exchange; an
empty pair gives NO TEXT (R22, R92, R93). That the address reported is the one stored with the text, as R92
says, and not the one the record holds, is the model's choice between two rules (log 19). -/
def Obligations.InboundTextIsReadAndReleased : Prop :=
  ∀ s : State,
    (s.inHand 0x34 [] → s.inbound = [] → s.refuses .readInbound 0x1F 3) ∧
    (s.inHand 0x35 [] → s.inbound = [] → s.refuses .releaseInbound 0x1F 0) ∧
    (∀ (x : InboundText) (rest : List InboundText), s.inHand 0x34 [] → s.inbound = x :: rest →
      exec .readInbound s = .next ({ s with inboundCursor := 0 }.answered
        [0x00, slotOctet x.slot, x.address, octetOfNat x.text.length])) ∧
    (∀ (x : InboundText) (rest : List InboundText), s.inHand 0x35 [] → s.inbound = x :: rest →
      let last := (s.record x.slot).state = .retiring ∧ (s.record x.slot).inboundCount ≤ 1 ∧
        s.contextNames x.slot = false
      ∃ t : State, exec .releaseInbound s = .next t ∧
        t.record x.slot =
          { s.record x.slot with
            inboundCount := (s.record x.slot).inboundCount - 1
            reasons :=
              if last then (s.record x.slot).reasons ||| 0x200 else (s.record x.slot).reasons } ∧
        t = State.answered
          { s.setRecord x.slot (t.record x.slot) with
            inbound := rest, inboundCursor := 0
            attention :=
              if last ∧ (s.record x.slot).reasons = 0 then s.attention ++ [x.slot]
              else s.attention } [0x00])

/-- The checks of the Text Store's commands, each met with the checks before it passed; NO BUFFER sets
buffer-wanted and changes nothing else, the staging text included (R78, R80, R82, R84, R86). -/
def Obligations.TextCommandsAreRefused : Prop :=
  ∀ (s : State) (i : Slot) (a : Octet),
    (s.inHand 0x30 [slotOctet i] →
      ((s.record i).state.isEnlisted = false ∨ (s.record i).state = .inService .lost →
        s.refuses .queueText 0x17 1) ∧
      ((s.record i).state.isEnlisted = true → (s.record i).state ≠ .inService .lost →
        ((s.record i).outboundText.isSome = true → s.refuses .queueText 0x1E 1) ∧
        ((s.record i).outboundText = none →
          (s.staging = [] ∨ s.stagingOverflow = true → s.refuses .queueText 0x20 1) ∧
          (s.staging ≠ [] → s.stagingOverflow = false →
            (∀ b : BufferNo, s.buffers[b.val] ≠ .free) →
            exec .queueText s = .next
              ({ s with bufferWanted := true }.answered [0x1D, 0x00]))))) ∧
    (s.inHand 0x31 [a] →
      (a.toNat < 0xF0 → s.refuses .queueGroupText 0x13 1) ∧
      (0xF0 ≤ a.toNat → s.staging = [] ∨ s.stagingOverflow = true →
        s.refuses .queueGroupText 0x20 1) ∧
      (0xF0 ≤ a.toNat → s.staging ≠ [] → s.stagingOverflow = false →
        (∀ b : BufferNo, s.buffers[b.val] ≠ .free) →
        exec .queueGroupText s = .next
          ({ s with bufferWanted := true }.answered [0x1D, 0x00]))) ∧
    (s.inHand 0x32 [slotOctet i] →
      ((s.record i).state = .free → s.refuses .cancelText 0x17 0) ∧
      ((s.record i).state ≠ .free → (s.record i).outboundText = none →
        s.refuses .cancelText 0x1F 0))

/-! ### Attention Unit -/

/-- NEXT ATTENTION reports the head slot and empties its reason set, takes the slot off the list, and frees
the record where RETIRED was among the reasons; an empty list gives NONE; nothing else changes but the port; the
state is reported by its code 0 to 6 (R8, R23, R99, R100, R101). -/
def Obligations.NextAttentionTakesTheHead : Prop :=
  recordCodesAreNumbered ∧ ∀ s : State, s.inHand 0x40 [] →
    (s.attention = [] → s.refuses .nextAttention 0x03 8) ∧
    (∀ (i : Slot) (rest : List Slot), s.attention = i :: rest →
      let r := s.record i
      exec .nextAttention s = .next (State.answered
        { s.setRecord i
            (if r.reasons.getLsbD 9 then Record.free
              else { r with reasons := 0, failureCause := .none }) with
          attention := rest }
        [0x00, slotOctet i, r.address, r.state.code,
         BitVec.ofNat 8 ((r.reasons.getLsbD 8).toNat + 2 * (r.reasons.getLsbD 9).toNat),
         r.reasons.setWidth 8,
         match r.failureCause with
          | .none => 0
          | .retries => 1
          | .lost => 2
          | .cancelled => 3,
         r.lastStatus.getD 0, if r.lastStatus.isSome then 1 else 0]))

/-! ### Line commands and LINE TEST -/

/-- START LINE, in STOPPED or FAULT, enters GAP with the gap timer started, or READY where the Turnaround Gap
is 0, restarts the probe timer and makes the probe pass PENDING; elsewhere it completes with LINE RUNNING.
STOP LINE stops the line at once where no turn is in progress, with the effects of an entry into STOPPED and
LINE STOPPED set, and requests a stop during a turn (R38, R39, R134, R135, R144, R146, R147). -/
def Obligations.StartAndStopLineMoveTheEngine : Prop :=
  (∀ s : State, s.inHand 0x50 [] →
    (s.engine = .stopped ∨ s.engine = .fault → exec .startLine s = .next (State.answered
      { s with
        engine := if s.params.turnaroundGap = 0 then .ready else .gap
        gapTimer :=
          if s.params.turnaroundGap = 0 then none
          else some { period := s.params.turnaroundGap.toNat, count := 0 }
        framer := none, receiver := Receiver.off
        probeTimer := some { period := 64 * s.params.probeInterval.toNat, count := 0 }
        probePass := .pending, probeCursor := 0 } [0x00])) ∧
    (s.engine ≠ .stopped → s.engine ≠ .fault → s.refuses .startLine 0x21 0)) ∧
  (∀ s : State, s.inHand 0x51 [] →
    (s.engine = .stopped ∨ s.engine = .gap ∨ s.engine = .ready ∨ s.engine = .fault →
      exec .stopLine s = .next (State.answered
        { s with
          engine := .stopped, causeLineStopped := true, framer := none, receiver := Receiver.off
          gapTimer := none, ctsTimer := none, replyTimer := none, settleTimer := none
          ctsLoss := false, stopRequested := false, lineTest := none, probeTimer := none
          probePass := .none, probeCursor := 0, followOn := none } [0x00])) ∧
    (s.engine.inExchange = true ∨ s.engine = .settling →
      exec .stopLine s = .next ({ s with stopRequested := true }.answered [0x00])))

/-- ABORT LINE ends an exchange ABANDONED and enters STOPPED with LINE STOPPED set: a text in flight goes back
to FILLED, with resync pending if it was WHOLLY SENT, or is failed with cause CANCELLED where its cancel was
requested, with resync pending then also if it had been retried; a RETIRING record's text is freed, and RETIRED
raised where it has no inbound text; POLL, SYNC and GROUP have no other effect on a record or a buffer (R22,
R24, R52, R62, R75, R144, R149). -/
def Obligations.AbortLineAbandonsTheExchange : Prop :=
  ∀ s : State, s.inHand 0x52 [] →
    s.abandonsBy .abortLine fun u => ({ u with context := none }.enterStopped true).answered [0x00]

/-- LINE TEST with staging text begins in STOPPED: the TEST block is built from the staging text, the receiver
hunts the loop and the command stays in progress; it is refused with LINE RUNNING elsewhere and with LENGTH
without staging text. The judgement of the block fixes PASS for address 0x00 and the text sent and MISMATCH
otherwise, a BAD block included; the test ends at the later of the judgement and the end of the last pad; without
a lead by then the reply timer starts, a lead detected stops it, and its expiry ends the test with NO SIGNAL. The
end is STOPPED without LINE STOPPED (R122, R124, R129, R145, R150, R151). That the window is emptied at the lead
detected is the model's choice (log 6). -/
def Obligations.LineTestComparesTheLoop : Prop :=
  (∀ s : State, s.inHand 0x53 [] →
    (s.lineTest = none →
      (s.engine ≠ .stopped → s.refuses .lineTest 0x21 0) ∧
      (s.engine = .stopped → s.staging = [] → s.refuses .lineTest 0x20 0) ∧
      (s.engine = .stopped → s.staging ≠ [] → exec .lineTest s = .next
        { s with
          engine := .testing
          framer := some (buildFrame s.params 0xCF 0x00 0x00 (some s.staging))
          receiver := { Receiver.off with phase := .hunting }
          lineTest := some { text := s.staging, verdict := none } })) ∧
    (s.engine = .testing → s.replyTimer.isSome = true →
      exec .replyTimerExpiry s = .next ((s.enterStopped false).answered [0x32]))) ∧
  (∀ (s : State) (l : LineTest), s.engine = .testing → s.lineTest = some l →
    (∀ (o a ctl : Octet) (text : List Octet) (rx : Receiver), s.receiver.phase = .body →
      s.takeOctet o = .judged rx (.good kindTest a ctl text) →
      let pass := decide (a = 0 ∧ text = l.text)
      (s.framer = none → exec (.blockJudged o) s = .next
        ((s.enterStopped false).answered [if pass then 0x30 else 0x31])) ∧
      (s.framer.isSome = true → exec (.blockJudged o) s = .next
        { s with
          receiver := rx
          lineTest := some { l with verdict := some (if pass then .pass else .mismatch) } })) ∧
    (∀ (o : Octet) (e : BlockError) (rx : Receiver), s.receiver.phase = .body →
      s.takeOctet o = .judged rx (.bad e) →
      (s.framer = none →
        exec (.blockJudged o) s = .next ((s.enterStopped false).answered [0x31])) ∧
      (s.framer.isSome = true → exec (.blockJudged o) s = .next
        { s with receiver := rx, lineTest := some { l with verdict := some .mismatch } })) ∧
    (s.receiver.phase = .aligned → exec .leadDetected s = .next
      { s with
        replyTimer := none
        receiver :=
          { s.receiver with
            phase := .body, window := [], octetBits := [], decoded := 0, escapeOpen := false
            crc := 0xFFFF } }) ∧
    (∀ (f : Frame) (v : Verdict), s.framer = some f → f.crcEnd ≤ f.sent → l.verdict = some v →
      exec .lastPadOctetEnded s = .next ((s.enterStopped false).answered
        [match v with
          | .pass => 0x30
          | .mismatch => 0x31])) ∧
    (∀ f : Frame, s.framer = some f → f.crcEnd ≤ f.sent → l.verdict = none →
      (s.receiver.phase = .hunting ∨ s.receiver.phase = .aligned →
        exec .lastPadOctetEnded s = .next
          { s with
            framer := none
            replyTimer := some { period := s.params.replyTimeout.toNat, count := 0 } }) ∧
      (s.receiver.phase = .body → exec .lastPadOctetEnded s = .next { s with framer := none })))

/-! ### Modem signals, timers and the framer -/

/-- A change of CTS or DCD sets the line change flag in every state but STOPPED; CTS active ends RAISING in
SENDING, CTS inactive in SENDING is a CTS loss, DCD inactive empties the window in LISTENING, ends RECEIVING
as a miss and ends SETTLING; every other change does nothing more (R123, R128, R133, R137, R139, R141, R142).
What the miss does to the record and its text is said by MissesMoveTheStanding and TextMissesRetryOrFail. -/
def Obligations.ModemChangesMoveTheEngine : Prop :=
  ∀ (s : State) (a : Bool),
    let flag := s.lineChange || decide (s.engine ≠ .stopped)
    (a ≠ s.cts →
      (s.engine = .raising → a = true → exec (.ctsChange a) s = .next
        { s with cts := true, lineChange := true, engine := .sending, ctsTimer := none }) ∧
      (s.engine = .sending → a = false → exec (.ctsChange a) s = .next
        { s with cts := false, lineChange := true, ctsLoss := true }) ∧
      ((s.engine = .raising → a = false) → (s.engine = .sending → a = true) →
        exec (.ctsChange a) s = .next { s with cts := a, lineChange := flag })) ∧
    (a ≠ s.dcd →
      (s.engine = .listening → a = false →
        s.receiver.phase = .hunting ∨ s.receiver.phase = .aligned →
        exec (.dcdChange a) s = .next
          { s with
            dcd := false, lineChange := true
            receiver := { s.receiver with phase := .hunting, window := [], octetBits := [] } }) ∧
      (s.engine = .receiving → a = false → exec (.dcdChange a) s = .next
        (State.endTurn
          { State.missExchange { s with dcd := false, lineChange := true } with
            engine := .settling, receiver := Receiver.off })) ∧
      (s.engine = .settling → a = false → exec (.dcdChange a) s = .next
        (State.endTurn { s with dcd := false, lineChange := true, settleTimer := none })) ∧
      (a = true ∨ (s.engine ≠ .listening ∧ s.engine ≠ .receiving ∧ s.engine ≠ .settling) →
        exec (.dcdChange a) s = .next { s with dcd := a, lineChange := flag }))

/-- The engine enters FAULT at the CTS timer's expiry in RAISING, at the cut after a CTS loss in SENDING and
at the settle timer's expiry in SETTLING: the code is written, LINE FAULT is set, the exchange ends ABANDONED,
its text returned, failed or freed as at ABORT LINE, without a miss or a change of toggle, and the ring, the
urgent list and the group queue are kept (R22, R24, R49, R52, R62, R75, R137, R139, R142 to R144). -/
def Obligations.FaultsAbandonTheExchange : Prop :=
  ∀ (s : State) (c : Instr) (k : FaultCode),
    (c = .ctsTimerExpiry ∧ k = .ctsTimeout ∧ s.engine = .raising ∧ s.ctsTimer.isSome = true) ∨
    (c = .ctsLost ∧ k = .ctsLost ∧ s.engine = .sending ∧ s.ctsLoss = true) ∨
    (c = .settleTimerExpiry ∧ k = .carrierStuck ∧ s.engine = .settling ∧
      s.settleTimer.isSome = true ∧ s.dcd = true ∧ s.context = none) →
    let faulted := fun u : State =>
      { u with
        engine := .fault, causeLineFault := true, params := { u.params with lastFault := k }
        context := none, framer := none, receiver := Receiver.off, gapTimer := none
        ctsTimer := none, replyTimer := none, settleTimer := none, ctsLoss := false
        stopRequested := false, lineTest := none, probeTimer := none, probePass := .none
        probeCursor := 0, followOn := none }
    s.abandonsBy c faulted ∧
    ∃ t : State, exec c s = .next t ∧
      (∀ j : Slot, (t.record j).missCount = (s.record j).missCount ∧
        (t.record j).state = (s.record j).state ∧
        (t.record j).outToggle = (s.record j).outToggle ∧
        (t.record j).inToggle = (s.record j).inToggle) ∧
      t = faulted { s with
        records := t.records, buffers := t.buffers, attention := t.attention
        causeBufferFree := t.causeBufferFree, bufferWanted := t.bufferWanted }

/-- The gap timer's expiry enters READY; the probe timer's expiry begins a new period at once and makes a NONE
pass PENDING, and is absorbed otherwise; the reply timer's expiry in LISTENING ends the exchange NO REPLY and
the turn, in STOPPED where a stop is requested (R38, R39, R134, R135, R140, R148). What NO REPLY does to the
record and its text is said by MissesMoveTheStanding and TextMissesRetryOrFail. -/
def Obligations.TimersExpire : Prop :=
  ∀ s : State,
    (s.engine = .gap → s.gapTimer.isSome = true →
      exec .gapTimerExpiry s = .next { s with engine := .ready, gapTimer := none }) ∧
    (s.probeTimer.isSome = true → exec .probeTimerExpiry s = .next
      { s with
        probeTimer := some { period := 64 * s.params.probeInterval.toNat, count := 0 }
        probePass := if s.probePass = .none then .pending else s.probePass
        probeCursor := if s.probePass = .none then 0 else s.probeCursor }) ∧
    (s.engine = .listening → s.replyTimer.isSome = true →
      let u := { s.missExchange with replyTimer := none }
      (s.stopRequested = true →
        exec .replyTimerExpiry s = .next (u.enterStopped true)) ∧
      (s.stopRequested = false → s.params.turnaroundGap ≠ 0 →
        exec .replyTimerExpiry s = .next
          { u with
            engine := .gap, framer := none, receiver := Receiver.off
            gapTimer := some { period := s.params.turnaroundGap.toNat, count := 0 } }) ∧
      (s.stopRequested = false → s.params.turnaroundGap = 0 →
        exec .replyTimerExpiry s = .next
          { u with
            engine := .ready, framer := none, receiver := Receiver.off, gapTimer := none }))

/-- The end of the last CRC octet makes the point reached WHOLLY SENT; the end of the last pad enters
LISTENING with the reply timer started and the receiver hunting, or, for GROUP, counts the repeat and frees
the buffer at the last one, with no record changed (R51, R74, R80, R85, R120, R122, R138). -/
def Obligations.FramerPointsMoveTheExchange : Prop :=
  ∀ (s : State) (c : Context) (f : Frame), s.engine = .sending → s.context = some c →
    s.framer = some f →
    (f.sent < f.crcEnd → exec .lastCrcOctetSent s = .next
      { s with
        framer := some { f with sent := f.crcEnd }
        context := some { c with point := .whollySent } }) ∧
    (f.crcEnd ≤ f.sent → s.ctsLoss = false →
      (c.exchange.slot?.isSome = true → exec .lastPadOctetEnded s = .next
        { s with
          engine := .listening, framer := none
          receiver := { Receiver.off with phase := .hunting }
          replyTimer := some { period := s.params.replyTimeout.toNat, count := 0 } }) ∧
      (∀ (b : BufferNo) (a : Octet) (x : List Octet) (n : Nat), c.exchange = .group b →
        s.buffers[b.val] = .group a x n → 1 < n →
        exec .lastPadOctetEnded s = .next (State.endTurn
          { s with
            context := none, buffers := s.buffers.set b.val (.group a x (n - 1)) })) ∧
      (∀ (b : BufferNo) (a : Octet) (x : List Octet), c.exchange = .group b →
        s.buffers[b.val] = .group a x 1 →
        exec .lastPadOctetEnded s = .next (State.endTurn
          { s with
            context := none, buffers := s.buffers.set b.val .free
            groupQueue := s.groupQueue.filter (· != b)
            causeBufferFree := s.causeBufferFree || s.bufferWanted, bufferWanted := false })))

/-! ### Receiver -/

/-- Octet alignment, in LISTENING with DCD active and in TESTING: each bit taken is shifted into the window, which holds
the last eight, and at its first match with the LEAD value, bit 0 first, the phase becomes ALIGNED; without a match the
phase stays HUNTING with the window the bits give. The octet after this first LEAD gives up the alignment where it is not
LEAD, and is the lead detected where it is: the body begins with the running CRC at 0xFFFF, the reply timer stops and
LISTENING becomes RECEIVING (R122, R123, R124, R129, R140). That the row carries the bits taken, and that bits behind
the match are carried by the next octet's row, is the model's choice (log 11), as is that the window is emptied as the
body begins (log 6). -/
def Obligations.LeadIsHuntedAndDetected : Prop :=
  ∀ s : State, (s.engine = .listening ∧ s.dcd = true) ∨ s.engine = .testing →
    (∀ bits : List Bool, s.receiver.phase = .hunting → s.receiver.window.length ≤ 8 →
      let lead := List.ofFn fun k : Fin 8 => s.params.leadOctet.getLsbD k.val
      (∀ n : Nat, 0 < n → n ≤ bits.length → lastEight s.receiver.window (bits.take n) = lead →
        (∀ m : Nat, 0 < m → m < n → lastEight s.receiver.window (bits.take m) ≠ lead) →
        exec (.octetAlignmentTaken bits) s = .next
          { s with receiver := { s.receiver with phase := .aligned, window := lead } }) ∧
      ((∀ n : Nat, 0 < n → n ≤ bits.length → lastEight s.receiver.window (bits.take n) ≠ lead) →
        exec (.octetAlignmentTaken bits) s = .next
          { s with
            receiver := { s.receiver with window := lastEight s.receiver.window bits } })) ∧
    (s.receiver.phase = .aligned →
      exec .leadDetected s = .next
        { s with
          engine := if s.engine = .listening then .receiving else .testing
          replyTimer := none
          receiver :=
            { s.receiver with
              phase := .body, window := [], octetBits := [], decoded := 0, escapeOpen := false
              crc := 0xFFFF } } ∧
      (∀ o : Octet, o ≠ s.params.leadOctet → exec (.alignmentGivenUp o) s = .next
        { s with
          receiver :=
            { s.receiver with
              phase := .hunting, octetBits := []
              window := List.ofFn fun k : Fin 8 => o.getLsbD k.val } }))

/-- One whole octet in BODY: PREFIX opens an escape and decodes nothing; a LEAD octet before the first other
octet is skipped; an octet that decodes as `v`, plainly or as the second of an escape pair, is kept by its
place: KIND, ADDRESS, CONTROL, LENGTH, text, CRC high, and enters the running CRC unless it is a CRC octet. The
block is judged BAD by a KIND that is not valid, a LENGTH that is not accepted, a LEAD met later and a PREFIX
followed by any other octet, and by its last CRC octet GOOD, or BAD where the CRC differs; the receiver is then
in ENDED (R113, R115, R118, R122, R124 to R127, R129). An octet that breaks an
escape leaves escape open no; that it does so where it is a PREFIX is the model's reading of R122 (log 21). -/
def Obligations.BodyOctetsAreDecodedByPlace : Prop :=
  ∀ (s : State) (o v : Octet), s.engine = .receiving ∨ s.engine = .testing →
    s.receiver.phase = .body → s.params.Legal →
    let rx := { s.receiver with octetBits := [] }
    let lead := s.params.leadOctet
    let pre := s.params.prefixOctet
    let kinds : List Octet :=
      if s.engine = .testing then [0xCF] else [0xA1, 0xA2, 0xA3, 0xA4, 0xA5]
    let hasLength : Prop := rx.kind = 0xA2 ∨ rx.kind = 0xA5 ∨ rx.kind = 0xCF
    let accepted : Prop := if rx.kind = 0xA5 then v = 1 else 1 ≤ v.toNat ∧ v.toNat ≤ 128
    let counted :=
      { rx with escapeOpen := false, decoded := rx.decoded + 1, crc := crcOctet rx.crc v }
    let countedCrc := { rx with escapeOpen := false, decoded := rx.decoded + 1 }
    let goesOn := fun next : Receiver =>
      exec (.bodyOctetDecoded o) s = .next { s with receiver := next }
    let isJudged := fun (last : Receiver) (j : Judgement) =>
      s.takeOctet o = .judged { last with phase := .ended } j
    let ends := isJudged countedCrc
      (if rx.crcHigh = highOctet rx.crc ∧ v = lowOctet rx.crc then
        .good rx.kind rx.address rx.control rx.assembly
      else .bad .crcError)
    (rx.escapeOpen = false → o = pre → goesOn { rx with escapeOpen := true }) ∧
    (rx.escapeOpen = false → o = lead →
      (rx.decoded = 0 → goesOn rx) ∧ (rx.decoded ≠ 0 → isJudged rx (.bad .escapeError))) ∧
    (rx.escapeOpen = true → o ≠ lead ^^^ 0x80 → o ≠ pre ^^^ 0x80 →
      isJudged { rx with escapeOpen := false } (.bad .escapeError)) ∧
    ((rx.escapeOpen = false ∧ o ≠ lead ∧ o ≠ pre ∧ v = o) ∨
      (rx.escapeOpen = true ∧ (v = lead ∨ v = pre) ∧ o = v ^^^ 0x80) →
      (rx.decoded = 0 →
        (v ∈ kinds → goesOn { counted with kind := v }) ∧
        (v ∉ kinds → isJudged counted (.bad .invalidKind))) ∧
      (rx.decoded = 1 → goesOn { counted with address := v }) ∧
      (rx.decoded = 2 → goesOn { counted with control := v }) ∧
      (rx.decoded = 3 → hasLength → rx.length = none →
        (accepted → goesOn { counted with length := some v.toNat }) ∧
        (¬ accepted → isJudged counted (.bad .lengthError))) ∧
      (∀ n : Nat, hasLength → rx.length = some n → 4 ≤ rx.decoded →
        (rx.decoded < n + 4 → goesOn { counted with assembly := rx.assembly ++ [v] }) ∧
        (rx.decoded = n + 4 → goesOn { countedCrc with crcHigh := v }) ∧
        (rx.decoded = n + 5 → ends)) ∧
      (¬ hasLength →
        (rx.decoded = 3 → goesOn { countedCrc with crcHigh := v }) ∧ (rx.decoded = 4 → ends)))

/-! ### Selection -/

/-- A selection in READY without a stop request takes the first source that offers an exchange: the follow-on,
the urgent head, the group queue's head, the probe pass and the Poll Ring, each with its own cursor or list
moved; where none offers, the engine stays in READY, a dropped follow-on is gone and a probe pass that found
no slot is NONE (R40, R42 to R48, R54). -/
def Obligations.SelectionTakesTheFirstSourceThatOffers : Prop :=
  ∀ s : State, s.engine = .ready → s.stopRequested = false →
    let u := { s with followOn := none }
    (∀ i : Slot, s.followOn = some i → (s.record i).state.isVisited = true →
      (s.record i).resyncPending = false →
      exec .selection s = .next (u.beginExchange (.poll i))) ∧
    ((∀ i ∈ s.followOn, (s.record i).state.isVisited = false ∨
        (s.record i).resyncPending = true) →
      (∀ (i : Slot) (rest : List Slot) (x : Exchange), s.urgent = i :: rest →
        ((s.record i).state.isVisited = true → s.visits i x →
          exec .selection s = .next ({ u with urgent := rest }.beginExchange x)) ∧
        ((s.record i).state.isProbed = true →
          exec .selection s = .next ({ u with urgent := rest }.beginExchange (.sync i)))) ∧
      (s.urgent = [] →
        (∀ (b : BufferNo) (rest : List BufferNo), s.groupQueue = b :: rest →
          exec .selection s = .next (u.beginExchange (.group b))) ∧
        (s.groupQueue = [] →
          (∀ i : Slot, s.probePass ≠ .none → s.probeCursor ≤ i.val →
            (s.record i).state.isProbed = true →
            (∀ j : Slot, s.probeCursor ≤ j.val → j < i → (s.record j).state.isProbed = false) →
            exec .selection s = .next
              ({ u with probePass := .inProgress, probeCursor := i.val + 1 }.beginExchange
                (.sync i))) ∧
          ((s.probePass ≠ .none → ∀ j : Slot, s.probeCursor ≤ j.val →
              (s.record j).state.isProbed = false) →
            let w :=
              { u with
                probePass := .none
                probeCursor := if s.probePass = .none then s.probeCursor else 0 }
            (∀ (k : Nat) (i : Slot) (x : Exchange), k < s.ring.length →
              s.ringCursor < s.ring.length →
              s.ring[(s.ringCursor + k) % s.ring.length]? = some i →
              (s.record i).state.isVisited = true →
              (∀ (m : Nat) (j : Slot), m < k →
                s.ring[(s.ringCursor + m) % s.ring.length]? = some j →
                (s.record j).state.isVisited = false) →
              s.visits i x →
              exec .selection s = .next
                ({ w with ringCursor := (s.ringCursor + k + 1) % s.ring.length }.beginExchange
                  x)) ∧
            ((∀ i ∈ s.ring, (s.record i).state.isVisited = false) →
              exec .selection s = .next w)))))

/-- The exchange begun at a selection: its context holds the address, S, A and H of its kind and NOT SENT, the
block is built from them with the format then held, the buffer of a TEXT goes IN FLIGHT, and the engine enters
SENDING if CTS is active and RAISING with the CTS timer otherwise (R51, R56 to R59, R111, R113, R114, R119,
R136). -/
def Obligations.SelectedExchangeIsComposed : Prop :=
  ∀ (s : State) (x : Exchange),
    let line := fun (kind address control : Octet) (text : List Octet) =>
      List.replicate s.params.leadCount.toNat s.params.leadOctet ++
        escapeAll s.params.leadOctet s.params.prefixOctet
          (withCrc ([kind, address, control] ++ text)) ++
        List.replicate s.params.padCount.toNat 0xFF
    let block := fun (octets : List Octet) => some
      { leadOctet := s.params.leadOctet, prefixOctet := s.params.prefixOctet
        leadCount := s.params.leadCount.toNat, padCount := s.params.padCount.toNat
        octets := octets, sent := 0 : Frame }
    let begun := fun (c : Context) (octets : List Octet) =>
      { s with
        context := some c, framer := block octets
        engine := if s.cts then .sending else .raising
        ctsTimer :=
          if s.cts then none else some { period := s.params.ctsTimeout.toNat, count := 0 } }
    (∀ i : Slot, x = .poll i →
      let r := s.record i
      let h := decide (s.inbound.length ≥ 2)
      s.beginExchange x = begun
        { exchange := x, address := r.address, sSent := false, aSent := r.inToggle, hSent := h
          point := .notSent }
        (line 0xC1 r.address (BitVec.ofNat 8 (2 * r.inToggle.toNat + 4 * h.toNat)) [])) ∧
    (∀ i : Slot, x = .sync i → s.beginExchange x = begun
      { exchange := x, address := (s.record i).address, sSent := false, aSent := false
        hSent := false, point := .notSent }
      (line 0xC3 (s.record i).address 0x00 [])) ∧
    (∀ (i o : Slot) (b : BufferNo) (t : List Octet), x = .text i b →
      s.buffers[b.val] = .filled o t →
      let r := s.record i
      s.beginExchange x =
        { begun
            { exchange := x, address := r.address, sSent := r.outToggle, aSent := r.inToggle
              hSent := false, point := .notSent }
            (line 0xC2 r.address (BitVec.ofNat 8 (r.outToggle.toNat + 2 * r.inToggle.toNat))
              (octetOfNat t.length :: t)) with
          buffers := s.buffers.set b.val (.inFlight o t) }) ∧
    (∀ (b : BufferNo) (a : Octet) (t : List Octet) (n : Nat), x = .group b →
      s.buffers[b.val] = .group a t n → s.beginExchange x = begun
        { exchange := x, address := a, sSent := false, aSent := false, hSent := false
          point := .notSent }
        (line 0xC4 a 0x00 (octetOfNat t.length :: t)))

/-! ### Outcomes of an exchange -/

/-- A POLL's reply, for a record in service: NIL counts the quiet watch and raises QUIET on reaching the
limit; a TEXT is stored and the in toggle flipped where its S is the bit expected, discarded as a duplicate
where it is not, and discarded with PROTOCOL where H was sent; each GOOD reply sets the miss count to 0 and
makes SUSPECT ACTIVE with RECOVERED. For HELD a text is stored in the same case and nothing else moves; for
RETIRING nothing moves, and RETIRED is raised where no inbound text remains (R22, R24, R60, R62, R63, R66, R67,
R90). -/
def Obligations.PollRepliesAreApplied : Prop :=
  ∀ (s : State) (o ctl : Octet) (text : List Octet) (c : Context) (i : Slot),
    c.exchange = .poll i →
    let r := s.record i
    let silent := s.judges o c (.good 0xA1 c.address ctl text)
    let spoken := s.judges o c (.good 0xA2 c.address ctl text)
    let ends := fun u : State => exec (.blockJudged o) s = .next u.settled
    let stored : State :=
      { s with inbound := s.inbound ++ [{ slot := i, address := c.address, text := text }] }
    let taken := fun x : Record =>
      { x with
        inToggle := !r.inToggle, receivedCount := r.receivedCount + 1
        inboundCount := r.inboundCount + 1 }
    (∀ h : Standing, r.state = .inService h →
      let good :=
        { r with
          missCount := 0, state := .inService (if h = Standing.suspect then Standing.active else h) }
      let recovered : ReasonSet := if h = .suspect then 0x008 else 0
      (silent →
        let n :=
          match r.quietLimit with
          | some q => if r.quietCount < q.toNat then r.quietCount + 1 else r.quietCount
          | none => r.quietCount
        let quiet : ReasonSet :=
          if r.quietCount < n ∧ r.quietLimit.map (·.toNat) = some n then 0x080 else 0
        ends (s.noted i (recovered ||| quiet) { good with quietCount := n })) ∧
      (spoken →
        (c.hSent = true → ends (s.noted i (recovered ||| 0x100) { good with quietCount := 0 })) ∧
        (c.hSent = false → ctl.getLsbD 0 = r.inToggle →
          ends (stored.noted i recovered (taken { good with quietCount := 0 }))) ∧
        (c.hSent = false → ctl.getLsbD 0 ≠ r.inToggle →
          ends (s.noted i recovered { good with quietCount := 0 })))) ∧
    (∀ h : Standing, r.state = .held h →
      (silent → ends s) ∧
      (spoken →
        (c.hSent = false → ctl.getLsbD 0 = r.inToggle → ends (stored.setRecord i (taken r))) ∧
        (c.hSent = true ∨ ctl.getLsbD 0 ≠ r.inToggle → ends s))) ∧
    (r.state = .retiring → silent ∨ spoken → ends (s.noted i (s.retiredNow i) r))

/-- A TEXT's reply, for an ACTIVE, SUSPECT or HELD record: an ACK whose A differs from the out toggle delivers
the text; a NAK, or an ACK that does not deliver, counts a retry and then fails the text as CANCELLED or
RETRIES, or returns it. Each makes an ACTIVE or SUSPECT record ACTIVE with miss count 0, RECOVERED from SUSPECT,
and sets the follow-on unless a stop is requested; a HELD record keeps its standing and gets none. A RETIRING
record's text is freed in every case, the out toggle and the delivered count move at a delivering ACK, and
RETIRED is raised where no inbound text remains (R22, R24, R55, R62, R63, R68, R69, R73). -/
def Obligations.TextRepliesAreApplied : Prop :=
  ∀ (s : State) (o k ctl : Octet) (rest text : List Octet) (c : Context) (i d : Slot)
    (b : BufferNo),
    c.exchange = .text i b → (s.record i).outboundText = some b →
    s.buffers[b.val] = .inFlight d text → s.judges o c (.good k c.address ctl rest) →
    let r := s.record i
    let ends := fun u : State => exec (.blockJudged o) s = .next u.settled
    let delivers := k = 0xA3 ∧ ctl.getLsbD 1 ≠ r.outToggle
    let refused := k = 0xA4 ∨ (k = 0xA3 ∧ ctl.getLsbD 1 = r.outToggle)
    let delivered := fun x : Record =>
      { x with outToggle := !r.outToggle, deliveredCount := r.deliveredCount + 1 }
    (r.state.isVisited = true ∨ (∃ h : Standing, r.state = .held h) →
      let visited := r.state.isVisited
      let good : Record := if visited then { r with missCount := 0, state := .inService .active } else r
      let recovered : ReasonSet := if r.state = .inService .suspect then 0x008 else 0
      let u :=
        { s with followOn := if visited && !s.stopRequested then some i else s.followOn }
      (delivers →
        ends ((u.bufferFreed b).noted i (recovered ||| 0x010) (delivered good.textFreed))) ∧
      (refused → r.cancelRequested = true →
        ends ((u.bufferFreed b).noted i (recovered ||| 0x020)
          { good.textFreed with failureCause := .cancelled })) ∧
      (refused → r.cancelRequested = false → s.params.retryLimit.toNat ≤ r.retryCount + 1 →
        ends ((u.bufferFreed b).noted i (recovered ||| 0x020)
          { good.textFreed with failureCause := .retries })) ∧
      (refused → r.cancelRequested = false → r.retryCount + 1 < s.params.retryLimit.toNat →
        ends ({ u with buffers := s.buffers.set b.val (.filled d text) }.noted i recovered
          { good with retryCount := r.retryCount + 1 }))) ∧
    (r.state = .retiring →
      (delivers →
        ends ((s.bufferFreed b).noted i (s.retiredNow i) (delivered r.textFreed))) ∧
      (refused → ends ((s.bufferFreed b).noted i (s.retiredNow i) r.textFreed)))

/-- A STATUS reply to a SYNC sets both toggles to 0, clears resync pending and takes the status octet, with
STATUS raised where it is new; a record in service becomes ACTIVE with miss count 0, STAGED with ADMITTED,
LOST and SUSPECT with RECOVERED; a HELD record keeps its state and raises nothing; a RETIRING record keeps its
state and raises RETIRED alone, where no inbound text remains (R22, R24, R62, R63, R71, R72). -/
def Obligations.StatusReplyResynchronises : Prop :=
  ∀ (s : State) (o ctl v : Octet) (c : Context) (i : Slot), c.exchange = .sync i →
    s.judges o c (.good 0xA5 c.address ctl [v]) →
    let r := s.record i
    let ends := fun u : State => exec (.blockJudged o) s = .next u.settled
    let synced :=
      { r with
        outToggle := false, inToggle := false, resyncPending := false, lastStatus := some v }
    (∀ h : Standing, r.state = .inService h →
      let status : ReasonSet := if r.lastStatus = some v then 0 else 0x040
      let moved : ReasonSet :=
        match h with
        | .staged => 0x001
        | .active => 0
        | .suspect => 0x008
        | .lost => 0x008
      ends (s.noted i (status ||| moved)
        { synced with missCount := 0, state := .inService .active })) ∧
    (∀ h : Standing, r.state = .held h → ends (s.setRecord i synced)) ∧
    (r.state = .retiring → ends (s.noted i (s.retiredNow i) synced))

/-- A miss of a POLL or a SYNC, by a BAD block, a GOOD one from another address or of an unexpected kind, a fall
of DCD or the reply timer's expiry, counts at most to 15 and moves the standing by the two thresholds as they
stand; entry into LOST clears resync pending and fails a pending text with cause LOST; a block of an unexpected
kind raises PROTOCOL as well; a HELD record is left as it was, and so is a RETIRING one but for RETIRED, raised
where no inbound text remains (R5, R22, R24, R61, R62, R64, R65, R128, R140, R141). -/
def Obligations.MissesMoveTheStanding : Prop :=
  ∀ (s : State) (c : Context) (e : Instr) (extra : ReasonSet) (finish : State → State) (i : Slot),
    c.exchange = .poll i ∨ c.exchange = .sync i → MissEvent s c e extra finish →
    let r := s.record i
    let n := min (r.missCount + 1) 15
    let ends := fun u : State => exec e s = .next (finish u)
    (∀ h : Standing, r.state = .inService h →
      (h = .lost ∨ n < s.params.lostThreshold.toNat →
        let suspect := h = .active ∧ s.params.suspectThreshold.toNat ≤ n
        ends (s.noted i (extra ||| if suspect then 0x002 else 0)
          { r with missCount := n, state := .inService (if suspect then .suspect else h) })) ∧
      (h ≠ .lost → s.params.lostThreshold.toNat ≤ n →
        let lost : ReasonSet := if h = .staged then 0 else 0x004
        (r.outboundText = none →
          ends (s.noted i (extra ||| lost)
            { r with missCount := n, state := .inService .lost, resyncPending := false })) ∧
        (∀ b : BufferNo, r.outboundText = some b →
          ends ((s.bufferFreed b).noted i (extra ||| lost ||| 0x020)
            { r.textFreed with
              missCount := n, state := .inService .lost, resyncPending := false
              failureCause := .lost })))) ∧
    (∀ h : Standing, r.state = .held h → ends s) ∧
    (r.state = .retiring → ends (s.noted i (s.retiredNow i) r))

/-- A miss of a TEXT, by any of the events of a miss: after the miss step, unless it made the record LOST, the
retry is counted and the text is failed as CANCELLED or RETRIES with resync pending set, or returned; a miss that
makes the record LOST fails it with cause LOST; PROTOCOL comes beside it at an unexpected kind. A HELD record
takes no miss and no PROTOCOL, and its text is retried or failed alike. A RETIRING record's text is freed and
nothing counted, with RETIRED raised where no inbound text remains; no follow-on is set (R22, R24, R55, R61, R62,
R64, R65, R70, R71, R73, R140, R141). -/
def Obligations.TextMissesRetryOrFail : Prop :=
  ∀ (s : State) (c : Context) (e : Instr) (extra : ReasonSet) (finish : State → State)
    (i d : Slot) (b : BufferNo) (text : List Octet),
    c.exchange = .text i b → (s.record i).outboundText = some b →
    s.buffers[b.val] = .inFlight d text → MissEvent s c e extra finish →
    let r := s.record i
    let n := min (r.missCount + 1) 15
    let ends := fun u : State => exec e s = .next (finish u)
    let retried := fun (x : Record) (raised : ReasonSet) =>
      (r.cancelRequested = true ∨ s.params.retryLimit.toNat ≤ r.retryCount + 1 →
        ends ((s.bufferFreed b).noted i (raised ||| 0x020)
          { x.textFreed with
            resyncPending := true
            failureCause := if r.cancelRequested then .cancelled else .retries })) ∧
      (r.cancelRequested = false → r.retryCount + 1 < s.params.retryLimit.toNat →
        ends ({ s with buffers := s.buffers.set b.val (.filled d text) }.noted i raised
          { x with retryCount := r.retryCount + 1 }))
    (∀ h : Standing, r.state = .inService h →
      (h = .lost ∨ n < s.params.lostThreshold.toNat →
        let suspect := h = .active ∧ s.params.suspectThreshold.toNat ≤ n
        retried { r with missCount := n, state := .inService (if suspect then .suspect else h) }
          (extra ||| if suspect then 0x002 else 0)) ∧
      (h ≠ .lost → s.params.lostThreshold.toNat ≤ n →
        let lost : ReasonSet := if h = .staged then 0 else 0x004
        ends ((s.bufferFreed b).noted i (extra ||| lost ||| 0x020)
          { r.textFreed with
            missCount := n, state := .inService .lost, resyncPending := false
            failureCause := .lost }))) ∧
    (∀ h : Standing, r.state = .held h → retried r 0) ∧
    (r.state = .retiring → ends ((s.bufferFreed b).noted i (s.retiredNow i) r.textFreed))
end

