-- ==== Sys2Proof/Laws/State.lean ====
section
/-! SUPPORT. What each update of the state leaves as it was, field by field, and what a record reads after a record was
replaced. -/

namespace Sys2Proof.Machine

/-! ### Records -/

/-- Two states with the same table have the same records. -/
theorem State.record_congr (s t : State) (h : s.records = t.records) (i : Slot) :
    s.record i = t.record i := by
  simp [State.record, h]

@[simp] theorem State.record_setRecord_same (s : State) (i : Slot) (r : Record) :
    (s.setRecord i r).record i = r := by
  simp [State.record, State.setRecord]

theorem State.record_setRecord_ne (s : State) (i j : Slot) (r : Record) (h : j ≠ i) :
    (s.setRecord i r).record j = s.record j := by
  have h' : i.val ≠ j.val := fun e => h (Fin.ext e.symm)
  simp [State.record, State.setRecord, h']

theorem State.record_setRecord (s : State) (i j : Slot) (r : Record) :
    (s.setRecord i r).record j = if j = i then r else s.record j := by
  split
  · next h => subst h; simp
  · next h => exact s.record_setRecord_ne i j r h

@[simp] theorem State.setRecord_setRecord (s : State) (i : Slot) (r r' : Record) :
    (s.setRecord i r).setRecord i r' = s.setRecord i r' := by
  simp [State.setRecord]

@[simp] theorem State.setRecord_record (s : State) (i : Slot) : s.setRecord i (s.record i) = s := by
  simp [State.setRecord, State.record]

@[simp] theorem State.record_modRecord_same (s : State) (i : Slot) (f : Record → Record) :
    (s.modRecord i f).record i = f (s.record i) := by
  simp [State.modRecord]

theorem State.record_modRecord_ne (s : State) (i j : Slot) (f : Record → Record) (h : j ≠ i) :
    (s.modRecord i f).record j = s.record j :=
  s.record_setRecord_ne i j _ h

theorem State.record_modRecord (s : State) (i j : Slot) (f : Record → Record) :
    (s.modRecord i f).record j = if j = i then f (s.record i) else s.record j :=
  s.record_setRecord i j _

@[simp] theorem State.modRecord_modRecord (s : State) (i : Slot) (f g : Record → Record) :
    (s.modRecord i f).modRecord i g = s.modRecord i fun r => g (f r) := by
  simp [State.modRecord]


/-! ### setRecord changes the records alone -/

@[simp] theorem State.setRecord_ring (s : State) (i : Slot) (r : Record) :
    (s.setRecord i r).ring = s.ring := rfl
@[simp] theorem State.setRecord_ringCursor (s : State) (i : Slot) (r : Record) :
    (s.setRecord i r).ringCursor = s.ringCursor := rfl
@[simp] theorem State.setRecord_urgent (s : State) (i : Slot) (r : Record) :
    (s.setRecord i r).urgent = s.urgent := rfl
@[simp] theorem State.setRecord_probeTimer (s : State) (i : Slot) (r : Record) :
    (s.setRecord i r).probeTimer = s.probeTimer := rfl
@[simp] theorem State.setRecord_probePass (s : State) (i : Slot) (r : Record) :
    (s.setRecord i r).probePass = s.probePass := rfl
@[simp] theorem State.setRecord_probeCursor (s : State) (i : Slot) (r : Record) :
    (s.setRecord i r).probeCursor = s.probeCursor := rfl
@[simp] theorem State.setRecord_followOn (s : State) (i : Slot) (r : Record) :
    (s.setRecord i r).followOn = s.followOn := rfl
@[simp] theorem State.setRecord_context (s : State) (i : Slot) (r : Record) :
    (s.setRecord i r).context = s.context := rfl
@[simp] theorem State.setRecord_framer (s : State) (i : Slot) (r : Record) :
    (s.setRecord i r).framer = s.framer := rfl
@[simp] theorem State.setRecord_receiver (s : State) (i : Slot) (r : Record) :
    (s.setRecord i r).receiver = s.receiver := rfl
@[simp] theorem State.setRecord_engine (s : State) (i : Slot) (r : Record) :
    (s.setRecord i r).engine = s.engine := rfl
@[simp] theorem State.setRecord_cts (s : State) (i : Slot) (r : Record) :
    (s.setRecord i r).cts = s.cts := rfl
@[simp] theorem State.setRecord_dcd (s : State) (i : Slot) (r : Record) :
    (s.setRecord i r).dcd = s.dcd := rfl
@[simp] theorem State.setRecord_ctsLoss (s : State) (i : Slot) (r : Record) :
    (s.setRecord i r).ctsLoss = s.ctsLoss := rfl
@[simp] theorem State.setRecord_gapTimer (s : State) (i : Slot) (r : Record) :
    (s.setRecord i r).gapTimer = s.gapTimer := rfl
@[simp] theorem State.setRecord_ctsTimer (s : State) (i : Slot) (r : Record) :
    (s.setRecord i r).ctsTimer = s.ctsTimer := rfl
@[simp] theorem State.setRecord_replyTimer (s : State) (i : Slot) (r : Record) :
    (s.setRecord i r).replyTimer = s.replyTimer := rfl
@[simp] theorem State.setRecord_settleTimer (s : State) (i : Slot) (r : Record) :
    (s.setRecord i r).settleTimer = s.settleTimer := rfl
@[simp] theorem State.setRecord_stopRequested (s : State) (i : Slot) (r : Record) :
    (s.setRecord i r).stopRequested = s.stopRequested := rfl
@[simp] theorem State.setRecord_lineChange (s : State) (i : Slot) (r : Record) :
    (s.setRecord i r).lineChange = s.lineChange := rfl
@[simp] theorem State.setRecord_lineTest (s : State) (i : Slot) (r : Record) :
    (s.setRecord i r).lineTest = s.lineTest := rfl
@[simp] theorem State.setRecord_staging (s : State) (i : Slot) (r : Record) :
    (s.setRecord i r).staging = s.staging := rfl
@[simp] theorem State.setRecord_stagingOverflow (s : State) (i : Slot) (r : Record) :
    (s.setRecord i r).stagingOverflow = s.stagingOverflow := rfl
@[simp] theorem State.setRecord_buffers (s : State) (i : Slot) (r : Record) :
    (s.setRecord i r).buffers = s.buffers := rfl
@[simp] theorem State.setRecord_bufferWanted (s : State) (i : Slot) (r : Record) :
    (s.setRecord i r).bufferWanted = s.bufferWanted := rfl
@[simp] theorem State.setRecord_groupQueue (s : State) (i : Slot) (r : Record) :
    (s.setRecord i r).groupQueue = s.groupQueue := rfl
@[simp] theorem State.setRecord_inbound (s : State) (i : Slot) (r : Record) :
    (s.setRecord i r).inbound = s.inbound := rfl
@[simp] theorem State.setRecord_inboundCursor (s : State) (i : Slot) (r : Record) :
    (s.setRecord i r).inboundCursor = s.inboundCursor := rfl
@[simp] theorem State.setRecord_attention (s : State) (i : Slot) (r : Record) :
    (s.setRecord i r).attention = s.attention := rfl
@[simp] theorem State.setRecord_causeDone (s : State) (i : Slot) (r : Record) :
    (s.setRecord i r).causeDone = s.causeDone := rfl
@[simp] theorem State.setRecord_causeBufferFree (s : State) (i : Slot) (r : Record) :
    (s.setRecord i r).causeBufferFree = s.causeBufferFree := rfl
@[simp] theorem State.setRecord_causeLineStopped (s : State) (i : Slot) (r : Record) :
    (s.setRecord i r).causeLineStopped = s.causeLineStopped := rfl
@[simp] theorem State.setRecord_causeLineFault (s : State) (i : Slot) (r : Record) :
    (s.setRecord i r).causeLineFault = s.causeLineFault := rfl
@[simp] theorem State.setRecord_mask (s : State) (i : Slot) (r : Record) :
    (s.setRecord i r).mask = s.mask := rfl
@[simp] theorem State.setRecord_argumentBlock (s : State) (i : Slot) (r : Record) :
    (s.setRecord i r).argumentBlock = s.argumentBlock := rfl
@[simp] theorem State.setRecord_argumentOverflow (s : State) (i : Slot) (r : Record) :
    (s.setRecord i r).argumentOverflow = s.argumentOverflow := rfl
@[simp] theorem State.setRecord_command (s : State) (i : Slot) (r : Record) :
    (s.setRecord i r).command = s.command := rfl
@[simp] theorem State.setRecord_done (s : State) (i : Slot) (r : Record) :
    (s.setRecord i r).done = s.done := rfl
@[simp] theorem State.setRecord_refused (s : State) (i : Slot) (r : Record) :
    (s.setRecord i r).refused = s.refused := rfl
@[simp] theorem State.setRecord_result (s : State) (i : Slot) (r : Record) :
    (s.setRecord i r).result = s.result := rfl
@[simp] theorem State.setRecord_resultCursor (s : State) (i : Slot) (r : Record) :
    (s.setRecord i r).resultCursor = s.resultCursor := rfl
@[simp] theorem State.setRecord_params (s : State) (i : Slot) (r : Record) :
    (s.setRecord i r).params = s.params := rfl
@[simp] theorem State.setRecord_paramIndex (s : State) (i : Slot) (r : Record) :
    (s.setRecord i r).paramIndex = s.paramIndex := rfl
@[simp] theorem State.setRecord_paramRefused (s : State) (i : Slot) (r : Record) :
    (s.setRecord i r).paramRefused = s.paramRefused := rfl
@[simp] theorem State.setRecord_rstLow (s : State) (i : Slot) (r : Record) :
    (s.setRecord i r).rstLow = s.rstLow := rfl
@[simp] theorem State.setRecord_dataOut (s : State) (i : Slot) (r : Record) :
    (s.setRecord i r).dataOut = s.dataOut := rfl
@[simp] theorem State.setRecord_pending (s : State) (i : Slot) (r : Record) :
    (s.setRecord i r).pending = s.pending := rfl

/-! ### modRecord changes the records alone -/

@[simp] theorem State.modRecord_ring (s : State) (i : Slot) (f : Record → Record) :
    (s.modRecord i f).ring = s.ring := rfl
@[simp] theorem State.modRecord_ringCursor (s : State) (i : Slot) (f : Record → Record) :
    (s.modRecord i f).ringCursor = s.ringCursor := rfl
@[simp] theorem State.modRecord_urgent (s : State) (i : Slot) (f : Record → Record) :
    (s.modRecord i f).urgent = s.urgent := rfl
@[simp] theorem State.modRecord_probeTimer (s : State) (i : Slot) (f : Record → Record) :
    (s.modRecord i f).probeTimer = s.probeTimer := rfl
@[simp] theorem State.modRecord_probePass (s : State) (i : Slot) (f : Record → Record) :
    (s.modRecord i f).probePass = s.probePass := rfl
@[simp] theorem State.modRecord_probeCursor (s : State) (i : Slot) (f : Record → Record) :
    (s.modRecord i f).probeCursor = s.probeCursor := rfl
@[simp] theorem State.modRecord_followOn (s : State) (i : Slot) (f : Record → Record) :
    (s.modRecord i f).followOn = s.followOn := rfl
@[simp] theorem State.modRecord_context (s : State) (i : Slot) (f : Record → Record) :
    (s.modRecord i f).context = s.context := rfl
@[simp] theorem State.modRecord_framer (s : State) (i : Slot) (f : Record → Record) :
    (s.modRecord i f).framer = s.framer := rfl
@[simp] theorem State.modRecord_receiver (s : State) (i : Slot) (f : Record → Record) :
    (s.modRecord i f).receiver = s.receiver := rfl
@[simp] theorem State.modRecord_engine (s : State) (i : Slot) (f : Record → Record) :
    (s.modRecord i f).engine = s.engine := rfl
@[simp] theorem State.modRecord_cts (s : State) (i : Slot) (f : Record → Record) :
    (s.modRecord i f).cts = s.cts := rfl
@[simp] theorem State.modRecord_dcd (s : State) (i : Slot) (f : Record → Record) :
    (s.modRecord i f).dcd = s.dcd := rfl
@[simp] theorem State.modRecord_ctsLoss (s : State) (i : Slot) (f : Record → Record) :
    (s.modRecord i f).ctsLoss = s.ctsLoss := rfl
@[simp] theorem State.modRecord_gapTimer (s : State) (i : Slot) (f : Record → Record) :
    (s.modRecord i f).gapTimer = s.gapTimer := rfl
@[simp] theorem State.modRecord_ctsTimer (s : State) (i : Slot) (f : Record → Record) :
    (s.modRecord i f).ctsTimer = s.ctsTimer := rfl
@[simp] theorem State.modRecord_replyTimer (s : State) (i : Slot) (f : Record → Record) :
    (s.modRecord i f).replyTimer = s.replyTimer := rfl
@[simp] theorem State.modRecord_settleTimer (s : State) (i : Slot) (f : Record → Record) :
    (s.modRecord i f).settleTimer = s.settleTimer := rfl
@[simp] theorem State.modRecord_stopRequested (s : State) (i : Slot) (f : Record → Record) :
    (s.modRecord i f).stopRequested = s.stopRequested := rfl
@[simp] theorem State.modRecord_lineChange (s : State) (i : Slot) (f : Record → Record) :
    (s.modRecord i f).lineChange = s.lineChange := rfl
@[simp] theorem State.modRecord_lineTest (s : State) (i : Slot) (f : Record → Record) :
    (s.modRecord i f).lineTest = s.lineTest := rfl
@[simp] theorem State.modRecord_staging (s : State) (i : Slot) (f : Record → Record) :
    (s.modRecord i f).staging = s.staging := rfl
@[simp] theorem State.modRecord_stagingOverflow (s : State) (i : Slot) (f : Record → Record) :
    (s.modRecord i f).stagingOverflow = s.stagingOverflow := rfl
@[simp] theorem State.modRecord_buffers (s : State) (i : Slot) (f : Record → Record) :
    (s.modRecord i f).buffers = s.buffers := rfl
@[simp] theorem State.modRecord_bufferWanted (s : State) (i : Slot) (f : Record → Record) :
    (s.modRecord i f).bufferWanted = s.bufferWanted := rfl
@[simp] theorem State.modRecord_groupQueue (s : State) (i : Slot) (f : Record → Record) :
    (s.modRecord i f).groupQueue = s.groupQueue := rfl
@[simp] theorem State.modRecord_inbound (s : State) (i : Slot) (f : Record → Record) :
    (s.modRecord i f).inbound = s.inbound := rfl
@[simp] theorem State.modRecord_inboundCursor (s : State) (i : Slot) (f : Record → Record) :
    (s.modRecord i f).inboundCursor = s.inboundCursor := rfl
@[simp] theorem State.modRecord_attention (s : State) (i : Slot) (f : Record → Record) :
    (s.modRecord i f).attention = s.attention := rfl
@[simp] theorem State.modRecord_causeDone (s : State) (i : Slot) (f : Record → Record) :
    (s.modRecord i f).causeDone = s.causeDone := rfl
@[simp] theorem State.modRecord_causeBufferFree (s : State) (i : Slot) (f : Record → Record) :
    (s.modRecord i f).causeBufferFree = s.causeBufferFree := rfl
@[simp] theorem State.modRecord_causeLineStopped (s : State) (i : Slot) (f : Record → Record) :
    (s.modRecord i f).causeLineStopped = s.causeLineStopped := rfl
@[simp] theorem State.modRecord_causeLineFault (s : State) (i : Slot) (f : Record → Record) :
    (s.modRecord i f).causeLineFault = s.causeLineFault := rfl
@[simp] theorem State.modRecord_mask (s : State) (i : Slot) (f : Record → Record) :
    (s.modRecord i f).mask = s.mask := rfl
@[simp] theorem State.modRecord_argumentBlock (s : State) (i : Slot) (f : Record → Record) :
    (s.modRecord i f).argumentBlock = s.argumentBlock := rfl
@[simp] theorem State.modRecord_argumentOverflow (s : State) (i : Slot) (f : Record → Record) :
    (s.modRecord i f).argumentOverflow = s.argumentOverflow := rfl
@[simp] theorem State.modRecord_command (s : State) (i : Slot) (f : Record → Record) :
    (s.modRecord i f).command = s.command := rfl
@[simp] theorem State.modRecord_done (s : State) (i : Slot) (f : Record → Record) :
    (s.modRecord i f).done = s.done := rfl
@[simp] theorem State.modRecord_refused (s : State) (i : Slot) (f : Record → Record) :
    (s.modRecord i f).refused = s.refused := rfl
@[simp] theorem State.modRecord_result (s : State) (i : Slot) (f : Record → Record) :
    (s.modRecord i f).result = s.result := rfl
@[simp] theorem State.modRecord_resultCursor (s : State) (i : Slot) (f : Record → Record) :
    (s.modRecord i f).resultCursor = s.resultCursor := rfl
@[simp] theorem State.modRecord_params (s : State) (i : Slot) (f : Record → Record) :
    (s.modRecord i f).params = s.params := rfl
@[simp] theorem State.modRecord_paramIndex (s : State) (i : Slot) (f : Record → Record) :
    (s.modRecord i f).paramIndex = s.paramIndex := rfl
@[simp] theorem State.modRecord_paramRefused (s : State) (i : Slot) (f : Record → Record) :
    (s.modRecord i f).paramRefused = s.paramRefused := rfl
@[simp] theorem State.modRecord_rstLow (s : State) (i : Slot) (f : Record → Record) :
    (s.modRecord i f).rstLow = s.rstLow := rfl
@[simp] theorem State.modRecord_dataOut (s : State) (i : Slot) (f : Record → Record) :
    (s.modRecord i f).dataOut = s.dataOut := rfl
@[simp] theorem State.modRecord_pending (s : State) (i : Slot) (f : Record → Record) :
    (s.modRecord i f).pending = s.pending := rfl

/-! ### A completion writes the port alone -/

@[simp] theorem State.finish_records (s : State) (n : Nat) (c : ResultCode) (d : List Octet) :
    (s.finish n c d).records = s.records := rfl
@[simp] theorem State.finish_ring (s : State) (n : Nat) (c : ResultCode) (d : List Octet) :
    (s.finish n c d).ring = s.ring := rfl
@[simp] theorem State.finish_ringCursor (s : State) (n : Nat) (c : ResultCode) (d : List Octet) :
    (s.finish n c d).ringCursor = s.ringCursor := rfl
@[simp] theorem State.finish_urgent (s : State) (n : Nat) (c : ResultCode) (d : List Octet) :
    (s.finish n c d).urgent = s.urgent := rfl
@[simp] theorem State.finish_probeTimer (s : State) (n : Nat) (c : ResultCode) (d : List Octet) :
    (s.finish n c d).probeTimer = s.probeTimer := rfl
@[simp] theorem State.finish_probePass (s : State) (n : Nat) (c : ResultCode) (d : List Octet) :
    (s.finish n c d).probePass = s.probePass := rfl
@[simp] theorem State.finish_probeCursor (s : State) (n : Nat) (c : ResultCode) (d : List Octet) :
    (s.finish n c d).probeCursor = s.probeCursor := rfl
@[simp] theorem State.finish_followOn (s : State) (n : Nat) (c : ResultCode) (d : List Octet) :
    (s.finish n c d).followOn = s.followOn := rfl
@[simp] theorem State.finish_context (s : State) (n : Nat) (c : ResultCode) (d : List Octet) :
    (s.finish n c d).context = s.context := rfl
@[simp] theorem State.finish_framer (s : State) (n : Nat) (c : ResultCode) (d : List Octet) :
    (s.finish n c d).framer = s.framer := rfl
@[simp] theorem State.finish_receiver (s : State) (n : Nat) (c : ResultCode) (d : List Octet) :
    (s.finish n c d).receiver = s.receiver := rfl
@[simp] theorem State.finish_engine (s : State) (n : Nat) (c : ResultCode) (d : List Octet) :
    (s.finish n c d).engine = s.engine := rfl
@[simp] theorem State.finish_cts (s : State) (n : Nat) (c : ResultCode) (d : List Octet) :
    (s.finish n c d).cts = s.cts := rfl
@[simp] theorem State.finish_dcd (s : State) (n : Nat) (c : ResultCode) (d : List Octet) :
    (s.finish n c d).dcd = s.dcd := rfl
@[simp] theorem State.finish_ctsLoss (s : State) (n : Nat) (c : ResultCode) (d : List Octet) :
    (s.finish n c d).ctsLoss = s.ctsLoss := rfl
@[simp] theorem State.finish_gapTimer (s : State) (n : Nat) (c : ResultCode) (d : List Octet) :
    (s.finish n c d).gapTimer = s.gapTimer := rfl
@[simp] theorem State.finish_ctsTimer (s : State) (n : Nat) (c : ResultCode) (d : List Octet) :
    (s.finish n c d).ctsTimer = s.ctsTimer := rfl
@[simp] theorem State.finish_replyTimer (s : State) (n : Nat) (c : ResultCode) (d : List Octet) :
    (s.finish n c d).replyTimer = s.replyTimer := rfl
@[simp] theorem State.finish_settleTimer (s : State) (n : Nat) (c : ResultCode) (d : List Octet) :
    (s.finish n c d).settleTimer = s.settleTimer := rfl
@[simp] theorem State.finish_stopRequested (s : State) (n : Nat) (c : ResultCode) (d : List Octet) :
    (s.finish n c d).stopRequested = s.stopRequested := rfl
@[simp] theorem State.finish_lineChange (s : State) (n : Nat) (c : ResultCode) (d : List Octet) :
    (s.finish n c d).lineChange = s.lineChange := rfl
@[simp] theorem State.finish_lineTest (s : State) (n : Nat) (c : ResultCode) (d : List Octet) :
    (s.finish n c d).lineTest = s.lineTest := rfl
@[simp] theorem State.finish_staging (s : State) (n : Nat) (c : ResultCode) (d : List Octet) :
    (s.finish n c d).staging = s.staging := rfl
@[simp] theorem State.finish_stagingOverflow (s : State) (n : Nat) (c : ResultCode) (d : List Octet) :
    (s.finish n c d).stagingOverflow = s.stagingOverflow := rfl
@[simp] theorem State.finish_buffers (s : State) (n : Nat) (c : ResultCode) (d : List Octet) :
    (s.finish n c d).buffers = s.buffers := rfl
@[simp] theorem State.finish_bufferWanted (s : State) (n : Nat) (c : ResultCode) (d : List Octet) :
    (s.finish n c d).bufferWanted = s.bufferWanted := rfl
@[simp] theorem State.finish_groupQueue (s : State) (n : Nat) (c : ResultCode) (d : List Octet) :
    (s.finish n c d).groupQueue = s.groupQueue := rfl
@[simp] theorem State.finish_inbound (s : State) (n : Nat) (c : ResultCode) (d : List Octet) :
    (s.finish n c d).inbound = s.inbound := rfl
@[simp] theorem State.finish_inboundCursor (s : State) (n : Nat) (c : ResultCode) (d : List Octet) :
    (s.finish n c d).inboundCursor = s.inboundCursor := rfl
@[simp] theorem State.finish_attention (s : State) (n : Nat) (c : ResultCode) (d : List Octet) :
    (s.finish n c d).attention = s.attention := rfl
@[simp] theorem State.finish_causeBufferFree (s : State) (n : Nat) (c : ResultCode) (d : List Octet) :
    (s.finish n c d).causeBufferFree = s.causeBufferFree := rfl
@[simp] theorem State.finish_causeLineStopped (s : State) (n : Nat) (c : ResultCode) (d : List Octet) :
    (s.finish n c d).causeLineStopped = s.causeLineStopped := rfl
@[simp] theorem State.finish_causeLineFault (s : State) (n : Nat) (c : ResultCode) (d : List Octet) :
    (s.finish n c d).causeLineFault = s.causeLineFault := rfl
@[simp] theorem State.finish_mask (s : State) (n : Nat) (c : ResultCode) (d : List Octet) :
    (s.finish n c d).mask = s.mask := rfl
@[simp] theorem State.finish_argumentBlock (s : State) (n : Nat) (c : ResultCode) (d : List Octet) :
    (s.finish n c d).argumentBlock = s.argumentBlock := rfl
@[simp] theorem State.finish_argumentOverflow (s : State) (n : Nat) (c : ResultCode) (d : List Octet) :
    (s.finish n c d).argumentOverflow = s.argumentOverflow := rfl
@[simp] theorem State.finish_refused (s : State) (n : Nat) (c : ResultCode) (d : List Octet) :
    (s.finish n c d).refused = s.refused := rfl
@[simp] theorem State.finish_params (s : State) (n : Nat) (c : ResultCode) (d : List Octet) :
    (s.finish n c d).params = s.params := rfl
@[simp] theorem State.finish_paramIndex (s : State) (n : Nat) (c : ResultCode) (d : List Octet) :
    (s.finish n c d).paramIndex = s.paramIndex := rfl
@[simp] theorem State.finish_paramRefused (s : State) (n : Nat) (c : ResultCode) (d : List Octet) :
    (s.finish n c d).paramRefused = s.paramRefused := rfl
@[simp] theorem State.finish_rstLow (s : State) (n : Nat) (c : ResultCode) (d : List Octet) :
    (s.finish n c d).rstLow = s.rstLow := rfl
@[simp] theorem State.finish_dataOut (s : State) (n : Nat) (c : ResultCode) (d : List Octet) :
    (s.finish n c d).dataOut = s.dataOut := rfl
@[simp] theorem State.finish_pending (s : State) (n : Nat) (c : ResultCode) (d : List Octet) :
    (s.finish n c d).pending = s.pending := rfl

/-! ### The same in the terms of the statements -/

@[simp] theorem State.answered_records (s : State) (os : List Octet) :
    (s.answered os).records = s.records := rfl
@[simp] theorem State.answered_ring (s : State) (os : List Octet) :
    (s.answered os).ring = s.ring := rfl
@[simp] theorem State.answered_ringCursor (s : State) (os : List Octet) :
    (s.answered os).ringCursor = s.ringCursor := rfl
@[simp] theorem State.answered_urgent (s : State) (os : List Octet) :
    (s.answered os).urgent = s.urgent := rfl
@[simp] theorem State.answered_probeTimer (s : State) (os : List Octet) :
    (s.answered os).probeTimer = s.probeTimer := rfl
@[simp] theorem State.answered_probePass (s : State) (os : List Octet) :
    (s.answered os).probePass = s.probePass := rfl
@[simp] theorem State.answered_probeCursor (s : State) (os : List Octet) :
    (s.answered os).probeCursor = s.probeCursor := rfl
@[simp] theorem State.answered_followOn (s : State) (os : List Octet) :
    (s.answered os).followOn = s.followOn := rfl
@[simp] theorem State.answered_context (s : State) (os : List Octet) :
    (s.answered os).context = s.context := rfl
@[simp] theorem State.answered_framer (s : State) (os : List Octet) :
    (s.answered os).framer = s.framer := rfl
@[simp] theorem State.answered_receiver (s : State) (os : List Octet) :
    (s.answered os).receiver = s.receiver := rfl
@[simp] theorem State.answered_engine (s : State) (os : List Octet) :
    (s.answered os).engine = s.engine := rfl
@[simp] theorem State.answered_cts (s : State) (os : List Octet) :
    (s.answered os).cts = s.cts := rfl
@[simp] theorem State.answered_dcd (s : State) (os : List Octet) :
    (s.answered os).dcd = s.dcd := rfl
@[simp] theorem State.answered_ctsLoss (s : State) (os : List Octet) :
    (s.answered os).ctsLoss = s.ctsLoss := rfl
@[simp] theorem State.answered_gapTimer (s : State) (os : List Octet) :
    (s.answered os).gapTimer = s.gapTimer := rfl
@[simp] theorem State.answered_ctsTimer (s : State) (os : List Octet) :
    (s.answered os).ctsTimer = s.ctsTimer := rfl
@[simp] theorem State.answered_replyTimer (s : State) (os : List Octet) :
    (s.answered os).replyTimer = s.replyTimer := rfl
@[simp] theorem State.answered_settleTimer (s : State) (os : List Octet) :
    (s.answered os).settleTimer = s.settleTimer := rfl
@[simp] theorem State.answered_stopRequested (s : State) (os : List Octet) :
    (s.answered os).stopRequested = s.stopRequested := rfl
@[simp] theorem State.answered_lineChange (s : State) (os : List Octet) :
    (s.answered os).lineChange = s.lineChange := rfl
@[simp] theorem State.answered_lineTest (s : State) (os : List Octet) :
    (s.answered os).lineTest = s.lineTest := rfl
@[simp] theorem State.answered_staging (s : State) (os : List Octet) :
    (s.answered os).staging = s.staging := rfl
@[simp] theorem State.answered_stagingOverflow (s : State) (os : List Octet) :
    (s.answered os).stagingOverflow = s.stagingOverflow := rfl
@[simp] theorem State.answered_buffers (s : State) (os : List Octet) :
    (s.answered os).buffers = s.buffers := rfl
@[simp] theorem State.answered_bufferWanted (s : State) (os : List Octet) :
    (s.answered os).bufferWanted = s.bufferWanted := rfl
@[simp] theorem State.answered_groupQueue (s : State) (os : List Octet) :
    (s.answered os).groupQueue = s.groupQueue := rfl
@[simp] theorem State.answered_inbound (s : State) (os : List Octet) :
    (s.answered os).inbound = s.inbound := rfl
@[simp] theorem State.answered_inboundCursor (s : State) (os : List Octet) :
    (s.answered os).inboundCursor = s.inboundCursor := rfl
@[simp] theorem State.answered_attention (s : State) (os : List Octet) :
    (s.answered os).attention = s.attention := rfl
@[simp] theorem State.answered_causeBufferFree (s : State) (os : List Octet) :
    (s.answered os).causeBufferFree = s.causeBufferFree := rfl
@[simp] theorem State.answered_causeLineStopped (s : State) (os : List Octet) :
    (s.answered os).causeLineStopped = s.causeLineStopped := rfl
@[simp] theorem State.answered_causeLineFault (s : State) (os : List Octet) :
    (s.answered os).causeLineFault = s.causeLineFault := rfl
@[simp] theorem State.answered_mask (s : State) (os : List Octet) :
    (s.answered os).mask = s.mask := rfl
@[simp] theorem State.answered_argumentBlock (s : State) (os : List Octet) :
    (s.answered os).argumentBlock = s.argumentBlock := rfl
@[simp] theorem State.answered_argumentOverflow (s : State) (os : List Octet) :
    (s.answered os).argumentOverflow = s.argumentOverflow := rfl
@[simp] theorem State.answered_refused (s : State) (os : List Octet) :
    (s.answered os).refused = s.refused := rfl
@[simp] theorem State.answered_params (s : State) (os : List Octet) :
    (s.answered os).params = s.params := rfl
@[simp] theorem State.answered_paramIndex (s : State) (os : List Octet) :
    (s.answered os).paramIndex = s.paramIndex := rfl
@[simp] theorem State.answered_paramRefused (s : State) (os : List Octet) :
    (s.answered os).paramRefused = s.paramRefused := rfl
@[simp] theorem State.answered_rstLow (s : State) (os : List Octet) :
    (s.answered os).rstLow = s.rstLow := rfl
@[simp] theorem State.answered_dataOut (s : State) (os : List Octet) :
    (s.answered os).dataOut = s.dataOut := rfl
@[simp] theorem State.answered_pending (s : State) (os : List Octet) :
    (s.answered os).pending = s.pending := rfl

/-! ### An entry into STOPPED or FAULT keeps the rest (R144) -/

@[simp] theorem State.halt_records (s : State) :
    (s.halt).records = s.records := rfl
@[simp] theorem State.halt_ring (s : State) :
    (s.halt).ring = s.ring := rfl
@[simp] theorem State.halt_ringCursor (s : State) :
    (s.halt).ringCursor = s.ringCursor := rfl
@[simp] theorem State.halt_urgent (s : State) :
    (s.halt).urgent = s.urgent := rfl
@[simp] theorem State.halt_context (s : State) :
    (s.halt).context = s.context := rfl
@[simp] theorem State.halt_engine (s : State) :
    (s.halt).engine = s.engine := rfl
@[simp] theorem State.halt_cts (s : State) :
    (s.halt).cts = s.cts := rfl
@[simp] theorem State.halt_dcd (s : State) :
    (s.halt).dcd = s.dcd := rfl
@[simp] theorem State.halt_lineChange (s : State) :
    (s.halt).lineChange = s.lineChange := rfl
@[simp] theorem State.halt_staging (s : State) :
    (s.halt).staging = s.staging := rfl
@[simp] theorem State.halt_stagingOverflow (s : State) :
    (s.halt).stagingOverflow = s.stagingOverflow := rfl
@[simp] theorem State.halt_buffers (s : State) :
    (s.halt).buffers = s.buffers := rfl
@[simp] theorem State.halt_bufferWanted (s : State) :
    (s.halt).bufferWanted = s.bufferWanted := rfl
@[simp] theorem State.halt_groupQueue (s : State) :
    (s.halt).groupQueue = s.groupQueue := rfl
@[simp] theorem State.halt_inbound (s : State) :
    (s.halt).inbound = s.inbound := rfl
@[simp] theorem State.halt_inboundCursor (s : State) :
    (s.halt).inboundCursor = s.inboundCursor := rfl
@[simp] theorem State.halt_attention (s : State) :
    (s.halt).attention = s.attention := rfl
@[simp] theorem State.halt_causeDone (s : State) :
    (s.halt).causeDone = s.causeDone := rfl
@[simp] theorem State.halt_causeBufferFree (s : State) :
    (s.halt).causeBufferFree = s.causeBufferFree := rfl
@[simp] theorem State.halt_causeLineStopped (s : State) :
    (s.halt).causeLineStopped = s.causeLineStopped := rfl
@[simp] theorem State.halt_causeLineFault (s : State) :
    (s.halt).causeLineFault = s.causeLineFault := rfl
@[simp] theorem State.halt_mask (s : State) :
    (s.halt).mask = s.mask := rfl
@[simp] theorem State.halt_argumentBlock (s : State) :
    (s.halt).argumentBlock = s.argumentBlock := rfl
@[simp] theorem State.halt_argumentOverflow (s : State) :
    (s.halt).argumentOverflow = s.argumentOverflow := rfl
@[simp] theorem State.halt_command (s : State) :
    (s.halt).command = s.command := rfl
@[simp] theorem State.halt_done (s : State) :
    (s.halt).done = s.done := rfl
@[simp] theorem State.halt_refused (s : State) :
    (s.halt).refused = s.refused := rfl
@[simp] theorem State.halt_result (s : State) :
    (s.halt).result = s.result := rfl
@[simp] theorem State.halt_resultCursor (s : State) :
    (s.halt).resultCursor = s.resultCursor := rfl
@[simp] theorem State.halt_params (s : State) :
    (s.halt).params = s.params := rfl
@[simp] theorem State.halt_paramIndex (s : State) :
    (s.halt).paramIndex = s.paramIndex := rfl
@[simp] theorem State.halt_paramRefused (s : State) :
    (s.halt).paramRefused = s.paramRefused := rfl
@[simp] theorem State.halt_rstLow (s : State) :
    (s.halt).rstLow = s.rstLow := rfl
@[simp] theorem State.halt_dataOut (s : State) :
    (s.halt).dataOut = s.dataOut := rfl
@[simp] theorem State.halt_pending (s : State) :
    (s.halt).pending = s.pending := rfl

/-! ### endOctet changes the octet in assembly alone -/

@[simp] theorem Receiver.endOctet_octetBits (rx : Receiver) : rx.endOctet.octetBits = [] := rfl
@[simp] theorem Receiver.endOctet_phase (rx : Receiver) : rx.endOctet.phase = rx.phase := rfl
@[simp] theorem Receiver.endOctet_window (rx : Receiver) : rx.endOctet.window = rx.window := rfl
@[simp] theorem Receiver.endOctet_decoded (rx : Receiver) : rx.endOctet.decoded = rx.decoded := rfl
@[simp] theorem Receiver.endOctet_escapeOpen (rx : Receiver) : rx.endOctet.escapeOpen = rx.escapeOpen := rfl
@[simp] theorem Receiver.endOctet_kind (rx : Receiver) : rx.endOctet.kind = rx.kind := rfl
@[simp] theorem Receiver.endOctet_address (rx : Receiver) : rx.endOctet.address = rx.address := rfl
@[simp] theorem Receiver.endOctet_control (rx : Receiver) : rx.endOctet.control = rx.control := rfl
@[simp] theorem Receiver.endOctet_length (rx : Receiver) : rx.endOctet.length = rx.length := rfl
@[simp] theorem Receiver.endOctet_assembly (rx : Receiver) : rx.endOctet.assembly = rx.assembly := rfl
@[simp] theorem Receiver.endOctet_crc (rx : Receiver) : rx.endOctet.crc = rx.crc := rfl
@[simp] theorem Receiver.endOctet_crcHigh (rx : Receiver) : rx.endOctet.crcHigh = rx.crcHigh := rfl

end Sys2Proof.Machine
end

