-- ==== Sys2Proof/Laws/Ops.lean ====
section
/-! SUPPORT. What each shared operation does, said once: raising, the outbound text, the RETIRED test, the engine's entries,
the port's own part of an access or a completion. Each lemma is the whole effect of its operation in one case. -/

namespace Sys2Proof.Machine

/-! ### First of a finite range -/

/-- The search of a finite range finds exactly the lowest number with the property. -/
theorem find_finRange_eq_some {n : Nat} (p : Fin n → Bool) (i : Fin n) :
    (List.finRange n).find? p = some i ↔ p i = true ∧ ∀ j, j < i → p j = false := by
  rw [List.find?_eq_some_iff_getElem]
  constructor
  · rintro ⟨hp, k, hk, he, hlt⟩
    refine ⟨hp, fun j hj => ?_⟩
    have hki : k = i.val := by simpa using congrArg Fin.val he
    have := hlt j.val (by omega)
    simpa using this
  · rintro ⟨hp, hlt⟩
    refine ⟨hp, i.val, by simp, by simp, fun j hj => ?_⟩
    have := hlt ⟨j, by omega⟩ (by simpa [Fin.lt_def] using hj)
    simpa using this

/-- The search finds nothing exactly where no number has the property. -/
theorem find_finRange_eq_none {n : Nat} (p : Fin n → Bool) :
    (List.finRange n).find? p = none ↔ ∀ j, p j = false := by
  simp

/-! ### Raising (R62, R95, R98) -/

/-- A reason that the record's state allows joins the set, and the slot the list if its set was empty (R98). -/
theorem State.raise_of_mayRaise (s : State) (i : Slot) (r : Reason)
    (h : mayRaise (s.record i).state r = true) :
    s.raise i r =
      { s.modRecord i (fun x => { x with reasons := reasonAdd x.reasons r }) with
        attention := if (s.record i).reasons = 0 then s.attention ++ [i] else s.attention } := by
  simp [State.raise, h]

/-- A reason that the record's state does not allow changes nothing (R62). -/
theorem State.raise_of_not_mayRaise (s : State) (i : Slot) (r : Reason)
    (h : mayRaise (s.record i).state r = false) : s.raise i r = s := by
  simp [State.raise, h]

/-- Raising changes the records and the attention list alone. -/
theorem State.raise_frame (s : State) (i : Slot) (r : Reason) :
    s.raise i r =
      { s with records := (s.raise i r).records, attention := (s.raise i r).attention } := by
  unfold State.raise
  split <;> rfl

/-- Raising for one slot leaves every other record as it was (R98). -/
theorem State.record_raise_ne (s : State) (i j : Slot) (r : Reason) (h : j ≠ i) :
    (s.raise i r).record j = s.record j := by
  unfold State.raise
  split
  · have h' : i.val ≠ j.val := fun e => h (Fin.ext e.symm)
    simp [State.record, State.modRecord, State.setRecord, h']
  · rfl

/-- Raising changes a record in its reason set alone. -/
theorem State.record_raise_same (s : State) (i : Slot) (r : Reason) :
    (s.raise i r).record i =
      { s.record i with
        reasons :=
          if mayRaise (s.record i).state r = true then reasonAdd (s.record i).reasons r
          else (s.record i).reasons } := by
  unfold State.raise
  split
  · simp [State.record, State.modRecord, State.setRecord]
  · rfl

/-- A reason just added is in the set (R95). -/
theorem reasonIn_reasonAdd_same (rs : ReasonSet) (r : Reason) :
    reasonIn (reasonAdd rs r) r = true := by
  cases r <;> simp [reasonIn, reasonAdd, Reason.bit]

/-- Adding a reason leaves every other reason as it was (R95). -/
theorem reasonIn_reasonAdd_ne (rs : ReasonSet) (r q : Reason) (h : q ≠ r) :
    reasonIn (reasonAdd rs r) q = reasonIn rs q := by
  cases r <;> cases q <;> first | exact absurd rfl h | simp [reasonIn, reasonAdd, Reason.bit]

/-- A set with a reason added is not empty. -/
theorem reasonAdd_ne_zero (rs : ReasonSet) (r : Reason) : reasonAdd rs r ≠ 0 := by
  intro h
  have := reasonIn_reasonAdd_same rs r
  rw [h] at this
  cases r <;> simp [reasonIn, Reason.bit] at this

/-! ### The outbound text (R62, R80) -/

/-- The text freed, where the record names a buffer (R62, R80). -/
theorem State.freeText_of_some (s : State) (i : Slot) (b : BufferNo)
    (h : (s.record i).outboundText = some b) :
    s.freeText i =
      { s.modRecord i (fun r =>
          { r with outboundText := none, retryCount := 0, cancelRequested := false }) with
        buffers := s.buffers.set b.val .free
        causeBufferFree := s.causeBufferFree || s.bufferWanted
        bufferWanted := false } := by
  simp only [State.freeText, h]
  rfl

/-- The text freed, where the record names no buffer (R62). -/
theorem State.freeText_of_none (s : State) (i : Slot) (h : (s.record i).outboundText = none) :
    s.freeText i = s.modRecord i fun r =>
      { r with outboundText := none, retryCount := 0, cancelRequested := false } := by
  simp only [State.freeText, h]

/-- The text returned: its buffer goes from IN FLIGHT to FILLED (R62). -/
theorem State.returnText_of_inFlight (s : State) (i o : Slot) (b : BufferNo) (x : List Octet)
    (h : (s.record i).outboundText = some b) (hb : s.buffers[b.val] = .inFlight o x) :
    s.returnText i = { s with buffers := s.buffers.set b.val (.filled o x) } := by
  simp [State.returnText, h, hb]

/-- Returning a text changes the buffers alone. -/
theorem State.returnText_frame (s : State) (i : Slot) :
    s.returnText i = { s with buffers := (s.returnText i).buffers } := by
  unfold State.returnText
  split
  · rfl
  · split <;> rfl

/-- Freeing a text changes the records, the buffers, buffer-wanted and BUFFER FREE alone. -/
theorem State.freeText_frame (s : State) (i : Slot) :
    s.freeText i =
      { s with
        records := (s.freeText i).records, buffers := (s.freeText i).buffers
        causeBufferFree := (s.freeText i).causeBufferFree
        bufferWanted := (s.freeText i).bufferWanted } := by
  cases h : (s.record i).outboundText with
  | none => rw [s.freeText_of_none i h]; rfl
  | some b => rw [s.freeText_of_some i b h]; rfl

/-- The record of a freed text names no buffer and has no retry and no cancel request (R5, R62). -/
theorem State.record_freeText_same (s : State) (i : Slot) :
    (s.freeText i).record i =
      { s.record i with outboundText := none, retryCount := 0, cancelRequested := false } := by
  cases h : (s.record i).outboundText with
  | none => rw [s.freeText_of_none i h]; exact s.record_modRecord_same i _
  | some b =>
    rw [s.freeText_of_some i b h]
    simp [State.record, State.modRecord, State.setRecord]

/-- Freeing a text leaves every other record as it was. -/
theorem State.record_freeText_ne (s : State) (i j : Slot) (hj : j ≠ i) :
    (s.freeText i).record j = s.record j := by
  cases h : (s.record i).outboundText with
  | none => rw [s.freeText_of_none i h]; exact s.record_modRecord_ne i j _ hj
  | some b =>
    rw [s.freeText_of_some i b h]
    have h' : i.val ≠ j.val := fun e => hj (Fin.ext e.symm)
    simp [State.record, State.modRecord, State.setRecord, h']

/-! ### The hunt (R123) -/

/-- The octet read from the bits an octet goes out as is that octet (R112). -/
theorem octetOfBits_lineBits : ∀ o : Octet, octetOfBits (lineBits o) = o := by decide +kernel

/-- A bit shifted into a window of at most eight bits leaves the last eight (R123). -/
theorem shiftWindow_eq_lastEight (w : List Bool) (b : Bool) (h : w.length ≤ 8) :
    shiftWindow w b = lastEight w [b] := by
  unfold shiftWindow lastEight
  split
  · next hlt =>
    have : (w ++ [b]).length - 8 = 0 := by simp; omega
    rw [this, List.drop_zero]
  · have : (w ++ [b]).length - 8 = 1 := by simp; omega
    rw [this, List.drop_append_of_le_length (by omega)]

/-- The last eight bits are at most eight. -/
theorem length_lastEight_le (w bits : List Bool) : (lastEight w bits).length ≤ 8 := by
  simp [lastEight]
  omega

/-- The last eight of no more bits are those of the window. -/
theorem lastEight_nil (w : List Bool) (h : w.length ≤ 8) : lastEight w [] = w := by
  simp [lastEight, h]

/-- Bits taken one after the other leave the same last eight as taken at once. -/
theorem lastEight_cons (w bits : List Bool) (b : Bool) :
    lastEight (lastEight w [b]) bits = lastEight w (b :: bits) := by
  have hd : ∀ (k : Nat) (l : List Bool), k ≤ l.length - 8 →
      (l.drop k ++ bits).drop ((l.drop k ++ bits).length - 8) =
        (l ++ bits).drop ((l ++ bits).length - 8) := by
    intro k l hk
    rw [← List.drop_append_of_le_length (by omega), List.drop_drop]
    congr 1
    simp
    omega
  simpa [lastEight] using hd ((w ++ [b]).length - 8) (w ++ [b]) (Nat.le_refl _)

/-- A hunt without a match leaves the window with the last eight bits and no bit behind (R123). -/
theorem Receiver.hunt_of_no_match (lead : Octet) (rx : Receiver) (bits : List Bool)
    (hw : rx.window.length ≤ 8)
    (h : ∀ n, 0 < n → n ≤ bits.length → lastEight rx.window (bits.take n) ≠ lineBits lead) :
    Receiver.hunt lead rx bits = ({ rx with window := lastEight rx.window bits }, []) := by
  induction bits generalizing rx with
  | nil => simp [Receiver.hunt, lastEight_nil _ hw]
  | cons b bs ih =>
    have h1 : windowMatches lead (lastEight rx.window [b]) = false := by
      simpa [windowMatches] using h 1 (by omega) (by simp)
    simp only [Receiver.hunt, shiftWindow_eq_lastEight _ _ hw, h1]
    rw [if_neg (by simp), ih _ (length_lastEight_le _ _)]
    · simp [lastEight_cons]
    · intro n hn hl
      simpa [lastEight_cons] using h (n + 1) (by omega) (by simpa using hl)

/-- A hunt takes octet alignment at its first match, with the bits behind it left over (R123). -/
theorem Receiver.hunt_of_match (lead : Octet) (rx : Receiver) (bits : List Bool) (n : Nat)
    (hw : rx.window.length ≤ 8) (hn : 0 < n) (hl : n ≤ bits.length)
    (h : lastEight rx.window (bits.take n) = lineBits lead)
    (hf : ∀ m, 0 < m → m < n → lastEight rx.window (bits.take m) ≠ lineBits lead) :
    Receiver.hunt lead rx bits = (rx.align lead, bits.drop n) := by
  induction bits generalizing rx n with
  | nil => simp at hl; omega
  | cons b bs ih =>
    simp only [Receiver.hunt, shiftWindow_eq_lastEight _ _ hw]
    obtain rfl | hn1 : n = 1 ∨ 1 < n := by omega
    · have h1 : windowMatches lead (lastEight rx.window [b]) = true := by
        simpa [windowMatches] using h
      simp [h1]
    · have h1 : windowMatches lead (lastEight rx.window [b]) = false := by
        simpa [windowMatches] using hf 1 (by omega) hn1
      obtain ⟨k, rfl⟩ : ∃ k, n = k + 1 := ⟨n - 1, by omega⟩
      rw [h1, if_neg (by simp),
        ih { rx with window := lastEight rx.window [b] } k (length_lastEight_le _ _) (by omega)
          (by simpa using hl) (by simpa [lastEight_cons] using h)]
      · simp [Receiver.align]
      · intro m hm hlt
        simpa [lastEight_cons] using hf (m + 1) (by omega) (by omega)

/-! ### The receiver's octets (R125, R127) -/

/-- An octet judges a block `j` exactly where it leaves a receiver with that judgement (R127). -/
theorem Taken.judgement?_eq_some (t : Taken) (j : Judgement) :
    t.judgement? = some j ↔ ∃ rx, t = .judged rx j := by
  cases t <;> simp [Taken.judgement?]

/-- A decoded octet that judges the block leaves the receiver in ENDED, the octet counted and escape open as it was (R122,
R125, R127). -/
theorem Receiver.decode_judged (rx rx' : Receiver) (testing : Bool) (v : Octet) (j : Judgement)
    (h : rx.decode testing v = .judged rx' j) :
    rx'.phase = .ended ∧ rx'.decoded = rx.decoded + 1 ∧ rx'.escapeOpen = rx.escapeOpen := by
  unfold Receiver.decode at h
  split at h
  · split at h <;> cases h
    exact ⟨rfl, rfl, rfl⟩
  · cases h
  · cases h
  · split at h
    · split at h <;> cases h
      exact ⟨rfl, rfl, rfl⟩
    · split at h
      · cases h
      · split at h
        · cases h
        · split at h <;> cases h <;> exact ⟨rfl, rfl, rfl⟩

/-- An octet that judges the block leaves the receiver in ENDED with escape open no (R122, R125, R127). -/
theorem Receiver.take_judged (rx rx' : Receiver) (lead pre : Octet) (testing : Bool)
    (o : Octet) (j : Judgement) (h : rx.take lead pre testing o = .judged rx' j) :
    rx'.phase = .ended ∧ rx'.escapeOpen = false := by
  unfold Receiver.take at h
  split at h
  · split at h
    · have := decode_judged _ _ _ _ _ h
      exact ⟨this.1, this.2.2⟩
    · split at h
      · have := decode_judged _ _ _ _ _ h
        exact ⟨this.1, this.2.2⟩
      · cases h; exact ⟨rfl, rfl⟩
  · next he =>
    have he : rx.escapeOpen = false := by simpa using he
    split at h
    · split at h <;> cases h
      exact ⟨rfl, he⟩
    · split at h
      · cases h
      · have := decode_judged _ _ _ _ _ h
        exact ⟨this.1, this.2.2.trans he⟩

/-! ### The terms of the exchange statements -/

/-- Raising a reason that the record's state allows is noting it with the record unchanged otherwise (R98). -/
theorem State.raise_eq_noted (s : State) (i : Slot) (r : Reason)
    (h : mayRaise (s.record i).state r = true) :
    s.raise i r = s.noted i (reasonAdd 0 r) (s.record i) := by
  have hb : ¬ 1#10 <<< r.bit = 0#10 := by simpa [reasonAdd] using reasonAdd_ne_zero 0 r
  rw [s.raise_of_mayRaise i r h]
  simp [State.noted, State.listed, hb, State.modRecord, reasonAdd]

/-- Noting no reason sets the record alone. -/
theorem State.noted_zero (s : State) (i : Slot) (r : Record) : s.noted i 0 r = s.setRecord i r := by
  simp [State.noted, State.listed]
  rfl

/-- Noting leaves every other record as it was (R98). -/
theorem State.record_noted_ne (s : State) (i j : Slot) (rs : ReasonSet) (r : Record) (h : j ≠ i) :
    (s.noted i rs r).record j = s.record j :=
  (State.record_congr _ (s.setRecord i { r with reasons := r.reasons ||| rs }) rfl j).trans
    (s.record_setRecord_ne i j _ h)

/-- Freeing the text that a record names is freeing its buffer and clearing the record's text (R62, R80). -/
theorem State.freeText_eq_bufferFreed (s : State) (i : Slot) (b : BufferNo)
    (h : (s.record i).outboundText = some b) :
    s.freeText i = (s.bufferFreed b).setRecord i (s.record i).textFreed :=
  s.freeText_of_some i b h

/-! ### The RETIRED test (R22) and the end of a context (R52) -/

/-- RETIRED raised where its condition holds (R22). -/
theorem State.testRetired_of_condition (s : State) (i : Slot)
    (hs : (s.record i).state = .retiring) (hc : (s.record i).inboundCount = 0)
    (hx : s.contextNames i = false) : s.testRetired i = s.raise i .retired := by
  simp [State.testRetired, hs, hc, hx]

/-- The RETIRED test of a record that is not RETIRING changes nothing (R22). -/
theorem State.testRetired_of_not_retiring (s : State) (i : Slot)
    (h : (s.record i).state ≠ .retiring) : s.testRetired i = s := by
  simp [State.testRetired, h]

/-- The RETIRED test changes the records and the attention list alone. -/
theorem State.testRetired_frame (s : State) (i : Slot) :
    s.testRetired i =
      { s with records := (s.testRetired i).records, attention := (s.testRetired i).attention } := by
  unfold State.testRetired
  split
  · exact s.raise_frame i _
  · rfl

/-- The end of a context whose record is not RETIRING makes the context absent and changes nothing else (R52). -/
theorem State.endContext_of_not_retiring (s : State) (x : Exchange)
    (h : ∀ i, x.slot? = some i → (s.record i).state ≠ .retiring) :
    s.endContext x = { s with context := none } := by
  unfold State.endContext
  cases hx : x.slot? with
  | none => rfl
  | some i => exact State.testRetired_of_not_retiring _ i (h i hx)

/-! ### The engine's entries (R135, R142, R148) -/

/-- The end of a turn with a stop requested is STOPPED with LINE STOPPED (R148). -/
theorem State.endTurn_of_stop (s : State) (h : s.stopRequested = true) :
    s.endTurn = s.enterStopped true := by
  simp [State.endTurn, h]

/-- The end of a turn without a stop requested is GAP (R135). -/
theorem State.endTurn_of_no_stop (s : State) (h : s.stopRequested = false) :
    s.endTurn = s.enterGap := by
  simp [State.endTurn, h]

/-- With DCD active SETTLING is entered with the settle timer started (R142). -/
theorem State.enterSettling_of_dcd (s : State) (h : s.dcd = true) :
    s.enterSettling =
      { s with
        engine := .settling, receiver := Receiver.off
        settleTimer := startTimer s.params.replyTimeout.toNat } := by
  simp [State.enterSettling, h]

/-! ### The port's part (R168 to R173, R176) -/

/-- A port write is taken while RST# is not low (R176). -/
@[simp] theorem State.portWrite_of_high (s t : State) (h : s.rstLow = false) :
    s.portWrite t = t := by
  simp [State.portWrite, h]

/-- A port read is taken while RST# is not low (R176). -/
@[simp] theorem State.portReadStep_of_high (s t : State) (o : Octet) (h : s.rstLow = false) :
    s.portReadStep o t = { t with dataOut := o } := by
  simp [State.portReadStep, h]

/-- The completion of a command writes its result octets and the flags of the port (R172). -/
theorem State.finish_eq_answered (s : State) (n : Nat) (c : ResultCode) (d : List Octet) :
    s.finish n c d = s.answered (resultOctets n c d) := rfl

/-- The completion of the command in progress, given with the number of arguments it requires, is its own rule and the port's
part (R171, R172). -/
theorem State.complete_of_inHand (s : State) (n : CommandName) (args : List Octet)
    (body : List Octet → State → Completion) (h : s.inHand n.row.code args)
    (hn : args.length = n.row.args) :
    s.complete n body =
      (body args s).state.answered
        (resultOctets n.row.length (body args s).code (body args s).data) := by
  simp [State.complete, h, hn, State.finish_eq_answered]

/-- A wrong number of arguments, or ARGUMENT OVERFLOW at acceptance, completes with ARGUMENTS (R171). -/
theorem State.complete_of_badArguments (s : State) (n : CommandName) (k : Command)
    (body : List Octet → State → Completion) (h : s.command = some k) (hc : k.code = n.row.code)
    (hb : k.overflow = true ∨ k.args.length ≠ n.row.args) :
    s.complete n body = s.answered (resultOctets n.row.length .arguments []) := by
  simp only [State.complete, h, hc, if_pos hb, State.finish_eq_answered, if_true]

/-- The completion of a command that is not in progress does not occur (log 1). -/
theorem State.complete_of_other (s : State) (n : CommandName)
    (body : List Octet → State → Completion)
    (h : ∀ k, s.command = some k → k.code ≠ n.row.code) : s.complete n body = s := by
  unfold State.complete
  split
  · rfl
  · next k hk => simp [h k hk]

/-- MODIFY STATION, given whole, completes as the row of the field it names (R14). -/
theorem State.completeModify_of_inHand (s : State) (f x v : Octet)
    (rule : Slot → Octet → State → Completion) (h : s.inHand 0x13 [x, f, v]) :
    s.completeModify f rule =
      (modifyStation rule [x, f, v] s).state.answered
        (resultOctets 1 (modifyStation rule [x, f, v] s).code
          (modifyStation rule [x, f, v] s).data) := by
  have hs : Command.selectsField { code := 0x13, args := [x, f, v], overflow := false } f = true := by
    simp [Command.selectsField, argument]
  simp only [State.completeModify, h, hs, if_true]
  exact s.complete_of_inHand .modifyStation [x, f, v] _ h rfl

/-- A slot argument that is a slot reaches the command's own checks with that slot (R11). -/
@[simp] theorem withSlot_slotOctet (i : Slot) (s : State) (k : Slot → Completion) :
    withSlot (slotOctet i) s k = k i := by
  have h : (slotOctet i).toNat = i.val := by
    have := i.isLt
    simp only [slotOctet, octetOfNat, BitVec.toNat_ofNat]
    simp only [Config.slots] at this
    omega
  simp [withSlot, h]

/-- A slot argument above 39 gives BAD SLOT (R11). -/
theorem withSlot_of_ge (x : Octet) (s : State) (k : Slot → Completion) (h : 40 ≤ x.toNat) :
    withSlot x s k = refuse s .badSlot := by
  simp [withSlot, Config.slots, Nat.not_lt.mpr h]

/-! ### Selection (R42, R44) -/

/-- A source that offers an exchange is taken (R44). -/
theorem Offer.orElse_of_some (a : Offer) (next : State → Offer) (x : Exchange)
    (h : a.exchange = some x) : a.orElse next = a := by
  simp [Offer.orElse, h]

/-- A source that offers nothing is passed over, and the next sees the state it left (R44). -/
theorem Offer.orElse_of_none (a : Offer) (next : State → Offer) (h : a.exchange = none) :
    a.orElse next = next a.state := by
  simp [Offer.orElse, h]

/-- No selection takes place outside READY, with a stop requested, or with nothing selectable (R42). -/
theorem State.select_of_not (s : State)
    (h : ¬ (s.engine = .ready ∧ s.stopRequested = false ∧ s.selectable = true)) :
    s.select = s := by
  simp only [State.select, if_neg h]

/-- A selection begins the exchange that the sources offer, and otherwise leaves what they left (R42, R43). -/
theorem State.select_of_ready (s : State) (he : s.engine = .ready)
    (hs : s.stopRequested = false) (hc : s.selectable = true) :
    s.select =
      match s.choose.exchange with
      | some x => s.choose.state.beginExchange x
      | none => s.choose.state :=
  if_pos ⟨he, hs, hc⟩

end Sys2Proof.Machine
end

