-- ==== Sys2Proof/WellFormed.lean ====
section
/-! DEFINITION. The operands that an event can carry. Every octet and every level is one; the bits that bring about an
octet alignment are at least one, since the match is found after a bit (R123). -/

namespace Sys2Proof

/-- Whether the event's operand is one that the event can carry (R123 for the bits of an alignment). -/
def Instr.wellFormed : Instr → Bool
  | .octetAlignmentTaken bits => !bits.isEmpty
  | .acceptance _ | .argumentWrite _ | .stagingTextWrite _ | .causeClearWrite _ | .maskWrite _
  | .parameterIndexWrite _ | .parameterDataWrite _ | .lineStatusPortWrite _ => true
  | .ctsChange _ | .dcdChange _ => true
  | .alignmentGivenUp _ | .bodyOctetDecoded _ | .blockJudged _ => true
  | .resultRead | .inboundTextRead | .parameterDataRead | .lineStatusRead => true
  | .unknownCommand | .admitStation | .findStation | .readStation | .modifyStationAddress
  | .modifyStationGroup | .modifyStationQuietLimit | .modifyStationClearCounters | .holdStation
  | .releaseStation | .retireStation | .syncStation | .tableReset => true
  | .ringInsert | .ringRemove | .ringRead | .ringStatus | .pollNow => true
  | .queueText | .queueGroupText | .cancelText | .clearStaging | .readInbound | .releaseInbound
  | .bufferStatus | .nextAttention => true
  | .startLine | .stopLine | .abortLine | .lineTest => true
  | .masterReset | .rstReleased | .ctsLost | .selection | .lastCrcOctetSent | .lastPadOctetEnded
  | .leadDetected => true
  | .gapTimerExpiry | .ctsTimerExpiry | .replyTimerExpiry | .settleTimerExpiry | .probeTimerExpiry => true

end Sys2Proof
end

