-- ==== Sys2Proof/Laws/PerInstr.lean ====
section
/-! SUPPORT. What holds of every event of the 614 as syntax: one family, one lemma for each row of the opcode table. -/

namespace Sys2Proof.Laws.OperandCheck

/-- The operands of an event are refused exactly where the event is an octet alignment without a bit (R123). -/
def Statement (i : Instr) : Prop := i.wellFormed = false ↔ i = .octetAlignmentTaken []

theorem acceptance (code : Octet) : Statement (.acceptance code) :=
  iff_of_false nofun nofun

theorem argumentWrite (octet : Octet) : Statement (.argumentWrite octet) :=
  iff_of_false nofun nofun

theorem resultRead : Statement .resultRead :=
  iff_of_false nofun nofun

theorem unknownCommand : Statement .unknownCommand :=
  iff_of_false nofun nofun

theorem admitStation : Statement .admitStation :=
  iff_of_false nofun nofun

theorem findStation : Statement .findStation :=
  iff_of_false nofun nofun

theorem readStation : Statement .readStation :=
  iff_of_false nofun nofun

theorem modifyStationAddress : Statement .modifyStationAddress :=
  iff_of_false nofun nofun

theorem modifyStationGroup : Statement .modifyStationGroup :=
  iff_of_false nofun nofun

theorem modifyStationQuietLimit : Statement .modifyStationQuietLimit :=
  iff_of_false nofun nofun

theorem modifyStationClearCounters : Statement .modifyStationClearCounters :=
  iff_of_false nofun nofun

theorem holdStation : Statement .holdStation :=
  iff_of_false nofun nofun

theorem releaseStation : Statement .releaseStation :=
  iff_of_false nofun nofun

theorem retireStation : Statement .retireStation :=
  iff_of_false nofun nofun

theorem syncStation : Statement .syncStation :=
  iff_of_false nofun nofun

theorem tableReset : Statement .tableReset :=
  iff_of_false nofun nofun

theorem ringInsert : Statement .ringInsert :=
  iff_of_false nofun nofun

theorem ringRemove : Statement .ringRemove :=
  iff_of_false nofun nofun

theorem ringRead : Statement .ringRead :=
  iff_of_false nofun nofun

theorem ringStatus : Statement .ringStatus :=
  iff_of_false nofun nofun

theorem pollNow : Statement .pollNow :=
  iff_of_false nofun nofun

theorem queueText : Statement .queueText :=
  iff_of_false nofun nofun

theorem queueGroupText : Statement .queueGroupText :=
  iff_of_false nofun nofun

theorem cancelText : Statement .cancelText :=
  iff_of_false nofun nofun

theorem clearStaging : Statement .clearStaging :=
  iff_of_false nofun nofun

theorem readInbound : Statement .readInbound :=
  iff_of_false nofun nofun

theorem releaseInbound : Statement .releaseInbound :=
  iff_of_false nofun nofun

theorem bufferStatus : Statement .bufferStatus :=
  iff_of_false nofun nofun

theorem nextAttention : Statement .nextAttention :=
  iff_of_false nofun nofun

theorem startLine : Statement .startLine :=
  iff_of_false nofun nofun

theorem stopLine : Statement .stopLine :=
  iff_of_false nofun nofun

theorem abortLine : Statement .abortLine :=
  iff_of_false nofun nofun

theorem lineTest : Statement .lineTest :=
  iff_of_false nofun nofun

theorem stagingTextWrite (octet : Octet) : Statement (.stagingTextWrite octet) :=
  iff_of_false nofun nofun

theorem inboundTextRead : Statement .inboundTextRead :=
  iff_of_false nofun nofun

theorem causeClearWrite (octet : Octet) : Statement (.causeClearWrite octet) :=
  iff_of_false nofun nofun

theorem maskWrite (octet : Octet) : Statement (.maskWrite octet) :=
  iff_of_false nofun nofun

theorem parameterIndexWrite (octet : Octet) : Statement (.parameterIndexWrite octet) :=
  iff_of_false nofun nofun

theorem parameterDataRead : Statement .parameterDataRead :=
  iff_of_false nofun nofun

theorem parameterDataWrite (octet : Octet) : Statement (.parameterDataWrite octet) :=
  iff_of_false nofun nofun

theorem lineStatusRead : Statement .lineStatusRead :=
  iff_of_false nofun nofun

theorem lineStatusPortWrite (octet : Octet) : Statement (.lineStatusPortWrite octet) :=
  iff_of_false nofun nofun

theorem masterReset : Statement .masterReset :=
  iff_of_false nofun nofun

theorem rstReleased : Statement .rstReleased :=
  iff_of_false nofun nofun

theorem ctsChange (active : Bool) : Statement (.ctsChange active) :=
  iff_of_false nofun nofun

theorem dcdChange (active : Bool) : Statement (.dcdChange active) :=
  iff_of_false nofun nofun

theorem ctsLost : Statement .ctsLost :=
  iff_of_false nofun nofun

theorem selection : Statement .selection :=
  iff_of_false nofun nofun

theorem lastCrcOctetSent : Statement .lastCrcOctetSent :=
  iff_of_false nofun nofun

theorem lastPadOctetEnded : Statement .lastPadOctetEnded :=
  iff_of_false nofun nofun

theorem leadDetected : Statement .leadDetected :=
  iff_of_false nofun nofun

theorem blockJudged (octet : Octet) : Statement (.blockJudged octet) :=
  iff_of_false nofun nofun

theorem gapTimerExpiry : Statement .gapTimerExpiry :=
  iff_of_false nofun nofun

theorem ctsTimerExpiry : Statement .ctsTimerExpiry :=
  iff_of_false nofun nofun

theorem replyTimerExpiry : Statement .replyTimerExpiry :=
  iff_of_false nofun nofun

theorem settleTimerExpiry : Statement .settleTimerExpiry :=
  iff_of_false nofun nofun

theorem probeTimerExpiry : Statement .probeTimerExpiry :=
  iff_of_false nofun nofun

theorem octetAlignmentTaken (bits : List Bool) : Statement (.octetAlignmentTaken bits) := by
  cases bits <;> simp [Statement, Instr.wellFormed]

theorem alignmentGivenUp (octet : Octet) : Statement (.alignmentGivenUp octet) :=
  iff_of_false nofun nofun

theorem bodyOctetDecoded (octet : Octet) : Statement (.bodyOctetDecoded octet) :=
  iff_of_false nofun nofun

end Sys2Proof.Laws.OperandCheck
end

