-- ==== Sys2Proof/Tests/Slice0.lean ====
section
/-! SUPPORT. Tests of one event each, with expectations from the worked examples and tables of spec/, and, for every
statement that has hypotheses, a concrete state that meets them (witness_<statement>). -/

namespace Sys2Proof.Tests

open Sys2Proof.Machine

set_option Elab.async false

/-! ### Small states -/

/-- The state after an event. -/
def after (c : Instr) (s : State) : State :=
  match exec c s with
  | .next t => t
  | .fault _ | .refused _ => s

/-- The state with the command `code` accepted with `args`. -/
def asked (code : Octet) (args : List Octet) (s : State) : State :=
  { s with command := some { code := code, args := args, overflow := false } }

/-- A record with address 0x21, as in 1.10 and 10.2. -/
def station (st : Lifecycle) : Record := { Record.free with state := st, address := 0x21 }

/-- The 614 after reset with one record, in slot 5. -/
def withStation (r : Record) : State := State.reset.setRecord 5 r

/-- A state in another engine state. -/
def inEngine (e : EngineState) (s : State) : State := { s with engine := e }

/-- Slot 5 with a text in buffer 4. -/
def withText (r : Record) (x : OutBuffer) : State :=
  { withStation { r with outboundText := some 4 } with
    buffers := State.reset.buffers.set 4 x }

/-- The context of an exchange with address 0x21. -/
def contextOf (x : Exchange) (p : Point) : Context :=
  { exchange := x, address := 0x21, sSent := false, aSent := false, hSent := false, point := p }

/-- The line octets of a block between its lead and its pads, at the default format. -/
def wire (kind a ctl : Octet) (text : Option (List Octet)) : List Octet :=
  escapeAll 0x96 0x9A (withCrc (blockBody kind a ctl text))

/-- The receiver once it has taken every octet of a block but the last. -/
def heard (testing : Bool) (block : List Octet) : Receiver :=
  match Receiver.startHunt.enterBody.takeAll 0x96 0x9A testing block.dropLast with
  | .more rx => rx
  | .judged _ _ => Receiver.off

/-- RECEIVING with DCD active, one octet short of the end of a block. -/
def replying (s : State) (x : Exchange) (block : List Octet) : State :=
  { s with
    engine := .receiving, dcd := true, context := some (contextOf x .whollySent)
    receiver := heard false block }

/-- The receiver that a taken octet leaves. -/
def left : Taken → Receiver
  | .more rx | .judged rx _ => rx

/-- A running timer. -/
def running : Option Timer := some { period := 24, count := 0 }

/-- SENDING with the POLL of 6.7 to slot 5. -/
def sending (x : Exchange) (sent : Nat) : State :=
  { State.reset with
    engine := .sending, cts := true, context := some (contextOf x .notSent)
    framer := some { buildFrame Params.default 0xC1 0x96 0x02 none with sent := sent } }

/-! ### Words, operands and bus cycles -/

/-- R123: the match is found after a bit, so no alignment comes without one. -/
theorem test_wellFormed_refuses_an_alignment_without_bits :
    (Instr.octetAlignmentTaken []).wellFormed = false ∧
    (Instr.octetAlignmentTaken [true]).wellFormed = true ∧
    (Instr.bodyOctetDecoded 0xFF).wellFormed = true := by decide

/-- The table gives no bits, so no word spells a command and the queue stays as it is. -/
theorem test_no_word_spells_a_command :
    decodeTableWord 8 0x10 = none ∧ State.reset.withFetchWord 8 0x10 = State.reset := by
  decide +kernel

/-- R166: a write to port 0, a read of port 7, both strobes, CE# released, and a read that changes nothing. -/
theorem test_bus_cycles :
    portAccess true false true 0 0x10 = some (.acceptance 0x10) ∧
    portAccess true true false 7 0 = some .lineStatusRead ∧
    portAccess true true true 0 0x10 = none ∧ portAccess false false true 0 0x10 = none ∧
    portAccess true true false 0 0 = none := by decide

/-- R118: the check value over "123456789", and the registers of 6.7. -/
theorem test_crc_check_values :
    crcOf [0x31, 0x32, 0x33, 0x34, 0x35, 0x36, 0x37, 0x38, 0x39] = 0x29B1 ∧
    crcOf [0xC1] = 0x289D ∧ crcOf [0xC1, 0x96] = 0xDB15 ∧ crcOf [0xC1, 0x96, 0x02] = 0x4F54 := by
  decide +kernel

/-- The line octets of 6.7, the ADDRESS 0x96 escaped as 0x9A 0x16. -/
theorem test_line_octets_of_a_poll :
    (buildFrame Params.default 0xC1 0x96 0x02 none).octets =
      [0x96, 0x96, 0xC1, 0x9A, 0x16, 0x02, 0x4F, 0x54, 0xFF] := by decide +kernel

/-! ### Host port -/

/-- 9.10: the code is accepted with one argument, STATUS reads 0x80, the result block is empty. -/
theorem test_acceptance :
    let t := after (.acceptance 0x30)
      { State.reset with argumentBlock := [0x07], done := true, result := [0, 2], resultCursor := 2 }
    t.command = some { code := 0x30, args := [0x07], overflow := false } ∧ t.statusOctet = 0x80 ∧
    t.argumentBlock = [] ∧ t.result = [] := by decide +kernel

/-- 9.10: a second COMMAND write while BUSY is refused, STATUS 0xA0. -/
theorem test_acceptance_while_busy :
    (after (.acceptance 0x30) (asked 0x30 [0x07] State.reset)).statusOctet = 0xA0 := by
  decide +kernel

/-- R168: the eighth octet is stored, the ninth sets ARGUMENT OVERFLOW. -/
theorem test_argumentWrite :
    let s := { State.reset with argumentBlock := [1, 2, 3, 4, 5, 6, 7] }
    (after (.argumentWrite 8) s).argumentBlock = [1, 2, 3, 4, 5, 6, 7, 8] ∧
    (after (.argumentWrite 9) (after (.argumentWrite 8) s)).argumentOverflow = true := by
  decide +kernel

/-- 9.10: a RESULT read past the end returns 0x00 and leaves the cursor. -/
theorem test_resultRead :
    let s := { State.reset with result := [0x00, 0x02], resultCursor := 1 }
    (after .resultRead s).dataOut = 0x02 ∧
    (after .resultRead (after .resultRead s)).dataOut = 0x00 ∧
    (after .resultRead (after .resultRead s)).resultCursor = 2 := by decide +kernel

/-- R171, R173: UNKNOWN COMMAND with a result length of 1. -/
theorem test_unknownCommand :
    (after .unknownCommand (asked 0x18 [1, 2] State.reset)).result = [0x10] := by decide +kernel

/-- R77: the 129th octet is discarded with STAGING OVERFLOW. -/
theorem test_stagingTextWrite :
    let s := { State.reset with staging := List.replicate 127 0x41 }
    (after (.stagingTextWrite 0x42) s).staging.length = 128 ∧
    (after (.stagingTextWrite 0x43) (after (.stagingTextWrite 0x42) s)).statusOctet = 0x08 := by
  decide +kernel

/-- R91: the head text's octets, then 0x00. -/
theorem test_inboundTextRead :
    let s := { State.reset with inbound := [{ slot := 2, address := 0x23, text := [0x41] }] }
    (after .inboundTextRead s).dataOut = 0x41 ∧
    (after .inboundTextRead (after .inboundTextRead s)).dataOut = 0x00 := by decide +kernel

/-- 5.8: CAUSE CLEAR written 0x06 clears DONE and ignores bit 1. -/
theorem test_causeClearWrite :
    let s :=
      { State.reset with
        causeDone := true, inbound := [{ slot := 2, address := 0x23, text := [0x41] }] }
    s.causeOctet = 0x06 ∧ (after (.causeClearWrite 0x06) s).causeOctet = 0x02 := by
  decide +kernel

/-- 5.8: CAUSE 0x24 with MASK 0x03 releases INT#, and with MASK 0x23 asserts it. -/
theorem test_maskWrite :
    let s := { State.reset with causeDone := true, causeLineFault := true }
    (after (.maskWrite 0x03) s).intAsserted = false ∧
    (after (.maskWrite 0x23) s).intAsserted = true ∧
    (after (.maskWrite 0xA3) s).maskOctet = 0x23 := by decide +kernel

/-- R155: any octet is taken as the index. -/
theorem test_parameterIndexWrite :
    (after (.parameterIndexWrite 0xFF) State.reset).portRead 5 = 0xFF := by decide +kernel

/-- R154, R156: the default Reply Timeout is 24; the index wraps from 0xFF to 0x00. -/
theorem test_parameterDataRead :
    (after .parameterDataRead { State.reset with paramIndex := 0x07 }).dataOut = 24 ∧
    (after .parameterDataRead { State.reset with paramIndex := 0x07 }).paramIndex = 0x08 ∧
    (after .parameterDataRead { State.reset with paramIndex := 0xFF }).paramIndex = 0x00 := by
  decide +kernel

/-- 8.7: held low 0x40 and high 0x00 give divisor 64; Suspect 10 is refused against Lost 8. -/
theorem test_parameterDataWrite :
    let low := after (.parameterDataWrite 0x40) { State.reset with paramIndex := 0x05 }
    let t := after (.parameterDataWrite 0x00) low
    low.params.divisor = 1024 ∧ t.params.divisor = 64 ∧ t.paramIndex = 0x07 ∧
    (after (.parameterDataWrite 0x0A) { t with paramIndex := 0x0B }).paramRefused = true := by
  decide +kernel

/-- 8.7: after START LINE a Lead Count write is refused. -/
theorem test_parameterDataWrite_while_running :
    (after (.parameterDataWrite 0x03)
      { inEngine .gap State.reset with paramIndex := 0x02 }).params.leadCount = 2 := by
  decide +kernel

/-- R152: RAISING with a line change reads 0x39 and clears the flag. -/
theorem test_lineStatusRead :
    let s := { inEngine .raising State.reset with lineChange := true }
    (after .lineStatusRead s).dataOut = 0x39 ∧ (after .lineStatusRead s).lineChange = false := by
  decide +kernel

/-- R152, R166: a write to port 7 changes nothing. -/
theorem test_lineStatusPortWrite :
    after (.lineStatusPortWrite 0xFF) (inEngine .gap State.reset) = inEngine .gap State.reset := by
  decide +kernel

/-- R176: the reset discards a BUSY command and the table. -/
theorem test_masterReset :
    let t := after .masterReset (asked 0x30 [5] (withStation (station (.inService .active))))
    t.command = none ∧ (t.record 5).state = .free ∧ t.rstLow = true := by decide +kernel

/-- R177: a COMMAND write is ignored while RST# is low and accepted after its release. -/
theorem test_rstReleased :
    let s := { State.reset with rstLow := true }
    (after (.acceptance 0x23) s).command = none ∧
    (after (.acceptance 0x23) (after .rstReleased s)).busy = true := by decide +kernel

/-! ### Station Table -/

/-- 10.2: ADMIT STATION 0x21 gives OK, slot 0, queued 1. -/
theorem test_admitStation :
    let t := after .admitStation (asked 0x10 [0x21, 0x00, 0x00] State.reset)
    t.result = [0x00, 0, 1] ∧ (t.record 0).state = .inService .staged ∧ t.urgent = [0] := by
  decide +kernel

/-- 10.5: FIND STATION answers a RETIRING record with state code 6. -/
theorem test_findStation :
    (after .findStation (asked 0x11 [0x21] (withStation (station .retiring)))).result =
      [0x00, 5, 6] := by decide +kernel

/-- R4, R13: the octets of a HELD record with a FILLED text and no last status. -/
theorem test_readStation :
    (after .readStation (asked 0x12 [5]
      (withText { station (.held .active) with deliveredCount := 0x1234, missCount := 2 }
        (.filled 5 [0x41])))).result =
      [0x00, 5, 0x21, 0x00, 0x02, 2, 0, 4, 0, 0, 0, 0, 0, 0x12, 0x34, 0, 0] := by decide +kernel

/-- R15: an ACTIVE record keeps its address, a HELD one takes the new one and is to be synchronised. -/
theorem test_modifyStationAddress :
    (after .modifyStationAddress
      (asked 0x13 [5, 1, 0x30] (withStation (station (.inService .active))))).result = [0x17] ∧
    let t := after .modifyStationAddress
      (asked 0x13 [5, 1, 0x30] (withStation (station (.held .active))))
    (t.record 5).address = 0x30 ∧ (t.record 5).resyncPending = true := by decide +kernel

/-- R16: 0x00 takes the group away; 0xFF is no group address of a station. -/
theorem test_modifyStationGroup :
    let s := withStation { station (.inService .active) with group := some 0xF1 }
    ((after .modifyStationGroup (asked 0x13 [5, 2, 0x00] s)).record 5).group = none ∧
    (after .modifyStationGroup (asked 0x13 [5, 2, 0xFF] s)).result = [0x13] := by decide +kernel

/-- R17: the quiet limit is set and the quiet count cleared. -/
theorem test_modifyStationQuietLimit :
    let s := withStation { station (.inService .active) with quietCount := 3 }
    let t := after .modifyStationQuietLimit (asked 0x13 [5, 3, 9] s)
    (t.record 5).quietLimit = some 9 ∧ (t.record 5).quietCount = 0 := by decide +kernel

/-- R18: both statistics are cleared, whatever the value octet. -/
theorem test_modifyStationClearCounters :
    let s := withStation { station (.inService .lost) with deliveredCount := 7, receivedCount := 9 }
    let t := after .modifyStationClearCounters (asked 0x13 [5, 4, 0xFF] s)
    (t.record 5).deliveredCount = 0 ∧ (t.record 5).receivedCount = 0 := by decide +kernel

/-- 1.10: a SUSPECT record goes to HELD with held-from SUSPECT and leaves the urgent list. -/
theorem test_holdStation :
    let t := after .holdStation
      (asked 0x14 [5] { withStation (station (.inService .suspect)) with urgent := [5, 3] })
    (t.record 5).state = .held .suspect ∧ t.urgent = [3] := by decide +kernel

/-- 1.10: held-from SUSPECT returns to ACTIVE with miss count 0 and resync pending. -/
theorem test_releaseStation :
    let t := after .releaseStation
      (asked 0x15 [5] (withStation { station (.held .suspect) with missCount := 4 }))
    (t.record 5).state = .inService .active ∧ (t.record 5).missCount = 0 ∧
    (t.record 5).resyncPending = true := by decide +kernel

/-- 2.5: RETIRE STATION takes both entries of slot 5 out and the cursor stays 2. -/
theorem test_retireStation :
    let t := after .retireStation (asked 0x16 [5]
      { withStation { station (.held .active) with ringCount := 2 } with
        ring := [8, 3, 5, 3, 8, 5, 12], ringCursor := 2 })
    t.ring = [8, 3, 3, 8, 12] ∧ t.ringCursor = 2 ∧ (t.record 5).ringCount = 0 ∧
    t.attention = [5] ∧ (t.record 5).reasons = 0x200 := by decide +kernel

/-- R76: SYNC STATION sets resync pending; a STAGED record is refused with WRONG STATE. -/
theorem test_syncStation :
    ((after .syncStation
      (asked 0x17 [5] (withStation (station (.inService .active))))).record 5).resyncPending = true ∧
    (after .syncStation
      (asked 0x17 [5] (withStation (station (.inService .staged))))).result = [0x17] := by
  decide +kernel

/-- R26: the table is emptied in STOPPED, MASK kept; elsewhere LINE RUNNING. -/
theorem test_tableReset :
    let s := { withStation (station (.inService .active)) with ring := [5], mask := 0x3B }
    let t := after .tableReset (asked 0x1F [] s)
    t.record 5 = Record.free ∧ t.ring = [] ∧ t.maskOctet = 0x3B ∧
    (after .tableReset (asked 0x1F [] (inEngine .gap s))).result = [0x21] := by decide +kernel

/-! ### Poll Ring and urgent list -/

/-- 2.5: an insertion at position 0 with the cursor at 0 moves the cursor to 1. -/
theorem test_ringInsert :
    let t := after .ringInsert (asked 0x20 [0, 5]
      { withStation (station (.inService .lost)) with ring := [3, 5, 3, 8, 5, 12] })
    t.ring = [5, 3, 5, 3, 8, 5, 12] ∧ t.ringCursor = 1 := by decide +kernel

/-- 10.6: removal at the cursor and the end of the ring wraps it to 0; then BAD POSITION. -/
theorem test_ringRemove :
    let t := after .ringRemove (asked 0x21 [1] { State.reset with ring := [1, 0], ringCursor := 1 })
    t.ring = [1] ∧ t.ringCursor = 0 ∧ t.result = [0x00, 0] ∧
    (after .ringRemove (asked 0x21 [1] t)).result = [0x1B, 0] := by decide +kernel

/-- R32: the slot at a position. -/
theorem test_ringRead :
    (after .ringRead (asked 0x22 [3] { State.reset with ring := [0, 1, 0, 2] })).result =
      [0x00, 2] := by decide +kernel

/-- R32: length, cursor, urgent length, pass state. -/
theorem test_ringStatus :
    (after .ringStatus (asked 0x23 []
      { State.reset with
        ring := [0, 1, 0, 2], ringCursor := 3, urgent := [7], probePass := .inProgress })).result =
      [0x00, 4, 3, 1, 2] := by decide +kernel

/-- R36: the slot is appended; a second POLL NOW answers ALREADY. -/
theorem test_pollNow :
    let t := after .pollNow (asked 0x24 [5] (withStation (station (.inService .active))))
    t.urgent = [5] ∧ (after .pollNow (asked 0x24 [5] t)).result = [0x18] := by decide +kernel

/-! ### Text Store -/

/-- 9.10: with buffers 0 and 1 taken the text goes into buffer 2 and the staging length is 0. -/
theorem test_queueText :
    let s :=
      { withStation (station (.inService .active)) with
        staging := [0x41], buffers := (State.reset.buffers.set 0 (.filled 6 [1])).set 1 (.filled 8 [1]) }
    let t := after .queueText (asked 0x30 [5] s)
    t.result = [0x00, 2] ∧ t.buffers[2] = .filled 5 [0x41] ∧ t.staging = [] ∧
    (after .queueText (asked 0x30 [6] t)).result = [0x17, 0] := by decide +kernel

/-- R84, R154: a group text has the default Group Repeat 2. -/
theorem test_queueGroupText :
    let t := after .queueGroupText (asked 0x31 [0xF2] { State.reset with staging := [0x41] })
    t.result = [0x00, 0] ∧ t.buffers[0] = .group 0xF2 [0x41] 2 ∧ t.groupQueue = [0] := by
  decide +kernel

/-- R86: PENDING for a text IN FLIGHT, CANCELLED for a FILLED one. -/
theorem test_cancelText :
    (after .cancelText (asked 0x32 [5]
      (withText (station (.inService .active)) (.inFlight 5 [0x41])))).result = [0x01] ∧
    let t := after .cancelText (asked 0x32 [5]
      (withText { station (.inService .active) with retryCount := 1 } (.filled 5 [0x41])))
    t.result = [0x02] ∧ t.buffers[4] = .free ∧ (t.record 5).resyncPending = true := by
  decide +kernel

/-- R88: the staging buffer is emptied and its overflow cleared. -/
theorem test_clearStaging :
    let t := after .clearStaging
      (asked 0x33 [] { State.reset with staging := [1], stagingOverflow := true })
    t.staging = [] ∧ t.statusOctet = 0x40 := by decide +kernel

/-- 10.5: OK, slot 2, address 0x23, length 10. -/
theorem test_readInbound :
    (after .readInbound (asked 0x34 []
      { State.reset with
        inbound := [{ slot := 2, address := 0x23, text := List.replicate 10 0x41 }] })).result =
      [0x00, 2, 0x23, 10] := by decide +kernel

/-- R25, 10.5: a RETIRING record's text is reported with its slot and the address the record holds; R92: after MODIFY STATION
has changed that address since the storage, with the address the station used in its reply. -/
theorem test_readInbound_of_a_retiring_record :
    let read := fun (a : Octet) => (after .readInbound (asked 0x34 []
      { withStation { station .retiring with address := a, inboundCount := 1 } with
        inbound := [{ slot := 5, address := 0x21, text := [0x41] }] })).result
    read 0x21 = [0x00, 5, 0x21, 1] ∧ read 0x30 = [0x00, 5, 0x21, 1] := by decide +kernel

/-- 10.5: the last inbound text of a RETIRING record raises RETIRED. -/
theorem test_releaseInbound :
    let t := after .releaseInbound (asked 0x35 []
      { withStation { station .retiring with inboundCount := 1 } with
        inbound := [{ slot := 5, address := 0x21, text := [0x41] }] })
    t.inbound = [] ∧ t.attention = [5] ∧ (t.record 5).reasons = 0x200 := by decide +kernel

/-- 4.9: one FREE buffer, two group texts, staging length 40. -/
theorem test_bufferStatus :
    (after .bufferStatus (asked 0x36 []
      { State.reset with
        groupQueue := [6, 7], staging := List.replicate 40 0x41
        buffers := (Vector.replicate 8 (.filled 2 [1])).set 1 .free })).result =
      [0x00, 1, 2, 0, 40] := by decide +kernel

/-! ### Attention Unit -/

/-- 5.7, second take: slot 2, address 0x12, ACTIVE, reasons 0x30, cause RETRIES, last status 0x00. -/
theorem test_nextAttention :
    (after .nextAttention (asked 0x40 []
      { State.reset.setRecord 2
          { station (.inService .active) with
            address := 0x12, reasons := 0x030, failureCause := .retries, lastStatus := some 0 } with
        attention := [2] })).result = [0x00, 2, 0x12, 2, 0x00, 0x30, 1, 0x00, 0x01] := by
  decide +kernel

/-- 10.5: RETIRED is taken (octet 4 is 0x02) and the record is FREE. -/
theorem test_nextAttention_frees :
    let t := after .nextAttention (asked 0x40 []
      { withStation { station .retiring with reasons := 0x200, lastStatus := some 0x10 } with
        attention := [5] })
    t.result = [0x00, 5, 0x21, 6, 0x02, 0x00, 0, 0x10, 0x01] ∧ t.record 5 = Record.free := by
  decide +kernel

/-! ### Line Engine -/

/-- R146: GAP with the gap timer at 2, the probe pass PENDING, the probe timer at 32 times 64. -/
theorem test_startLine :
    let t := after .startLine (asked 0x50 [] State.reset)
    t.engine = .gap ∧ t.gapTimer = some { period := 2, count := 0 } ∧ t.probePass = .pending ∧
    t.probeTimer = some { period := 2048, count := 0 } := by decide +kernel

/-- 7.11: in a turn a stop is requested; from FAULT the engine enters STOPPED and LINE STOPPED is set. -/
theorem test_stopLine :
    (after .stopLine (asked 0x51 [] (sending (.poll 5) 0))).stopRequested = true ∧
    let t := after .stopLine (asked 0x51 [] (inEngine .fault State.reset))
    t.engine = .stopped ∧ t.causeLineStopped = true := by decide +kernel

/-- R149: the exchange is abandoned and the engine STOPPED at once. -/
theorem test_abortLine :
    let t := after .abortLine (asked 0x52 [] (sending (.poll 5) 0))
    t.engine = .stopped ∧ t.context = none ∧ t.framer = none ∧ t.causeOctet = 0x14 := by
  decide +kernel

/-- R150: TESTING with the TEST block built; without staging text LENGTH. -/
theorem test_lineTest :
    let t := after .lineTest (asked 0x53 [] { State.reset with staging := [0x41] })
    t.engine = .testing ∧ t.busy = true ∧
    (t.framer.map fun f => f.octets.take 7) = some [0x96, 0x96, 0xCF, 0x00, 0x00, 0x01, 0x41] ∧
    (after .lineTest (asked 0x53 [] State.reset)).result = [0x20] := by decide +kernel

/-- R137: CTS active in RAISING enters SENDING. -/
theorem test_ctsChange :
    let t := after (.ctsChange true)
      { inEngine .raising State.reset with ctsTimer := some { period := 8, count := 3 } }
    t.engine = .sending ∧ t.ctsTimer = none ∧ t.lineChange = true := by decide +kernel

/-- 7.5: DCD inactive in SETTLING enters GAP; 7.11: in STOPPED it sets no line change. -/
theorem test_dcdChange :
    (after (.dcdChange false)
      { inEngine .settling State.reset with dcd := true, settleTimer := running }).engine = .gap ∧
    (after (.dcdChange false) { State.reset with dcd := true }).lineChange = false := by
  decide +kernel

/-- 3.12, ending D: a cancelled text WHOLLY SENT fails as CANCELLED; FAULT with CTS LOST. -/
theorem test_ctsLost :
    let s :=
      { withText { station (.inService .active) with cancelRequested := true, retryCount := 1 }
          (.inFlight 5 [0x41]) with
        engine := .sending, ctsLoss := true, context := some (contextOf (.text 5 4) .whollySent) }
    let t := after .ctsLost s
    t.engine = .fault ∧ t.params.lastFault = .ctsLost ∧ t.buffers[4] = .free ∧
    (t.record 5).failureCause = .cancelled ∧ (t.record 5).resyncPending = true := by
  decide +kernel

/-- 2.6: the pass at 0 selects slot 14 and its cursor becomes 15; with CTS inactive RAISING. -/
theorem test_selection :
    let t := after .selection
      { State.reset.setRecord 14 (station (.inService .lost)) with
        engine := .ready, probePass := .pending }
    t.context.map (·.exchange) = some (.sync 14) ∧ t.probePass = .inProgress ∧
    t.probeCursor = 15 ∧ t.engine = .raising := by decide +kernel

/-- 6.7: the ring selects a POLL with A = 1 for the ACTIVE slot 15, sent as nine octets. -/
theorem test_selection_composes :
    let t := after .selection
      { State.reset.setRecord 15
          { station (.inService .active) with address := 0x96, inToggle := true } with
        engine := .ready, ring := [15], cts := true }
    t.engine = .sending ∧ (t.framer.map (·.octets)) =
      some [0x96, 0x96, 0xC1, 0x9A, 0x16, 0x02, 0x4F, 0x54, 0xFF] := by decide +kernel

/-- 6.7: the point reached becomes WHOLLY SENT at the end of the eighth octet. -/
theorem test_lastCrcOctetSent :
    let t := after .lastCrcOctetSent (sending (.poll 5) 7)
    t.context.map (·.point) = some .whollySent ∧ t.framer.map (·.sent) = some 8 := by
  decide +kernel

/-- 7.5: the last pad ends; LISTENING, the reply timer at 24, RTS released. -/
theorem test_lastPadOctetEnded :
    let t := after .lastPadOctetEnded (sending (.poll 5) 8)
    t.engine = .listening ∧ t.replyTimer = some { period := 24, count := 0 } ∧
    t.rtsAsserted = false ∧ t.receiver.phase = .hunting := by decide +kernel

/-- 7.4: the gap timer's expiry enters READY. -/
theorem test_gapTimerExpiry :
    (after .gapTimerExpiry { inEngine .gap State.reset with gapTimer := running }).engine =
      .ready := by decide +kernel

/-- R137, R143: FAULT with code CTS TIMEOUT and LINE FAULT set; 5.8: CAUSE bit 5. -/
theorem test_ctsTimerExpiry :
    let t := after .ctsTimerExpiry
      { inEngine .raising (sending (.poll 5) 0) with cts := false, ctsTimer := running }
    t.engine = .fault ∧ t.params.lastFault = .ctsTimeout ∧ t.causeOctet = 0x20 ∧
    t.context = none := by decide +kernel

/-- 5.7: the third miss of an ACTIVE record makes it SUSPECT with the reason raised. -/
theorem test_replyTimerExpiry :
    let t := after .replyTimerExpiry
      { withStation { station (.inService .active) with missCount := 2 } with
        engine := .listening, replyTimer := running
        context := some (contextOf (.poll 5) .whollySent) }
    t.engine = .gap ∧ (t.record 5).state = .inService .suspect ∧ (t.record 5).missCount = 3 ∧
    t.attention = [5] := by decide +kernel

/-- 7.11: the settle timer's expiry enters FAULT with CARRIER STUCK and discards the stop request. -/
theorem test_settleTimerExpiry :
    let t := after .settleTimerExpiry
      { inEngine .settling State.reset with
        dcd := true, settleTimer := running, stopRequested := true }
    t.engine = .fault ∧ t.params.lastFault = .carrierStuck ∧ t.stopRequested = false ∧
    t.causeLineStopped = false := by decide +kernel

/-- 2.6: an expiry during a pass IN PROGRESS is absorbed. -/
theorem test_probeTimerExpiry :
    let s := { inEngine .gap State.reset with probeTimer := running }
    (after .probeTimerExpiry s).probePass = .pending ∧
    (after .probeTimerExpiry { s with probePass := .inProgress, probeCursor := 15 }).probeCursor =
      15 := by decide +kernel

/-! ### Receiver -/

/-- The receiver hunting in LISTENING with DCD active. -/
def hunting (p : Phase) : State :=
  { State.reset with
    engine := .listening, dcd := true, replyTimer := running
    context := some (contextOf (.poll 5) .whollySent)
    receiver := { Receiver.off with phase := p } }

/-- R112, R123: the window matches 0x96 sent least significant bit first, after one bit of noise, and also where the bits
come in two runs, the first without a match. -/
theorem test_octetAlignmentTaken :
    (after (.octetAlignmentTaken [true, false, true, true, false, true, false, false, true])
      (hunting .hunting)).receiver.phase = .aligned ∧
    let t := after (.octetAlignmentTaken [true, false, true, true, false]) (hunting .hunting)
    t.receiver.phase = .hunting ∧ t.receiver.window = [true, false, true, true, false] ∧
    (after (.octetAlignmentTaken [true, false, false, true]) t).receiver.phase = .aligned := by
  decide +kernel

/-- R123, R129: bits round the loop one bit off the octets sent; alignment, lead detected and KIND all fall in the middle of
an octet sent, and seven bits of the next octet are in assembly at the end. -/
theorem test_octetAlignmentTaken_in_the_loop :
    let bits := true :: ([0x96, 0x96, 0xCF, 0x00] : List Octet).flatMap lineBits
    let t := [0, 1, 2, 3].foldl (fun (s : State) k => s.loopBits ((bits.drop (8 * k)).take 8))
      { State.reset with engine := .testing, receiver := Receiver.startHunt }
    t.receiver.phase = .body ∧ t.receiver.kind = 0xCF ∧ t.receiver.decoded = 1 ∧
    t.receiver.octetBits = List.replicate 7 false := by decide +kernel

/-- 6.8: the octet 0x3C gives the alignment up. -/
theorem test_alignmentGivenUp :
    (after (.alignmentGivenUp 0x3C) (hunting .aligned)).receiver.phase = .hunting ∧
    (after (.alignmentGivenUp 0x96) (hunting .aligned)).receiver.phase = .aligned := by
  decide +kernel

/-- 6.8: lead detected; RECEIVING, the reply timer stopped. -/
theorem test_leadDetected :
    let t := after .leadDetected (hunting .aligned)
    t.engine = .receiving ∧ t.replyTimer = none ∧ t.receiver.phase = .body := by decide +kernel

/-- 6.8: KIND 0xA2, then the escape pair 0x9A 0x16 decodes ADDRESS 0x96. -/
theorem test_bodyOctetDecoded :
    let t := [0x96, 0xA2, 0x9A, 0x16].foldl (fun s o => after (.bodyOctetDecoded o) s)
      (after .leadDetected (hunting .aligned))
    t.receiver.decoded = 2 ∧ t.receiver.kind = 0xA2 ∧ t.receiver.address = 0x96 := by
  decide +kernel

/-- 6.8: PREFIX followed by 0x55 is an escape error, a miss; the engine enters SETTLING. -/
theorem test_blockJudged_bad :
    let s := replying (withStation (station (.inService .active))) (.poll 5)
      [0xA2, 0x9A, 0x16, 0x01, 0x03, 0x41, 0x9A, 0x55]
    let t := after (.blockJudged 0x55) s
    t.engine = .settling ∧ (t.record 5).missCount = 1 ∧ t.inbound = [] := by decide +kernel

/-- 3.12, ending A: a GOOD ACK with A = 0 delivers the text of out toggle 1. -/
theorem test_blockJudged_delivers :
    let block := wire 0xA3 0x21 0x00 none
    let s := replying
      (withText { station (.inService .active) with outToggle := true } (.inFlight 5 [0x41]))
      (.text 5 4) block
    let t := after (.blockJudged (block.getLastD 0)) s
    (t.record 5).outToggle = false ∧ (t.record 5).deliveredCount = 1 ∧ t.followOn = some 5 ∧
    t.buffers[4] = .free ∧ (t.record 5).reasons = 0x010 := by decide +kernel

/-! ### Witnesses: the step and the whole machine -/

/-- A running line with one ACTIVE station, at the expiry of the gap timer. -/
def kept : State :=
  { withStation { station (.inService .active) with ringCount := 1 } with
    engine := .gap, gapTimer := running, probeTimer := running, ring := [5], urgent := [5]
    pending := [.gapTimerExpiry] }

/-- RAISING with one octet time left. -/
def raisingLate : State :=
  { sending (.poll 5) 0 with
    engine := .raising, cts := false, ctsTimer := some { period := 8, count := 7 }
    probeTimer := running }

/-- RST# held low. -/
def inReset : State := { State.reset with rstLow := true, cts := true }

/-- A slot whose RETIRED is the head of the attention list. -/
def retired : State :=
  { withStation { station .retiring with reasons := 0x200 } with attention := [5] }

theorem witness_StepTakesTheFrontCommand :
    kept.pending = .gapTimerExpiry :: [] ∧ State.reset.pending = [] := by decide +kernel

theorem witness_LineStaysStoppedOrInFault :
    let s := asked 0x50 [] State.reset
    let u := asked 0x51 [] (inEngine .fault State.reset)
    (exec .startLine s = .next (after .startLine s) ∧ s.engine = .stopped ∧
      (after .startLine s).engine ≠ .stopped) ∧
    (exec .stopLine u = .next (after .stopLine u) ∧ u.engine = .fault ∧
      (after .stopLine u).engine ≠ .fault) :=
  ⟨⟨rfl, by decide +kernel⟩, rfl, by decide +kernel⟩

theorem witness_RaisingTimesOutAfterItsPeriod :
    raisingLate.EngineWf ∧ raisingLate.engine = .raising ∧
    raisingLate.ctsTimer = some { period := 8, count := 7 } ∧ 7 < 8 :=
  ⟨by decide +kernel, by decide +kernel, by decide +kernel, by decide⟩

theorem witness_MasterResetHoldsEveryBlock :
    inReset.rstLow = true ∧ inReset.ResetWf ∧ Instr.selection ≠ .rstReleased := by decide +kernel

theorem witness_kept_steps :
    step kept = .next (after .gapTimerExpiry { kept with pending := [] }) := rfl

theorem witness_ParametersStayLegal : kept.params.Legal := by decide +kernel

theorem witness_ContextExactlyInAnExchange : kept.ContextWf ∧ raisingLate.ContextWf := by
  decide +kernel

theorem witness_EngineStaysConsistent : kept.EngineWf := by decide +kernel

theorem witness_AttentionListMatchesTheReasons :
    kept.RetiredWf ∧ kept.AttentionWf ∧ retired.RetiredWf ∧ retired.AttentionWf := by
  decide +kernel

theorem witness_RingAndUrgentListNameStationsInUse :
    kept.RetiredWf ∧ kept.RingWf ∧ kept.UrgentWf := by decide +kernel

theorem witness_EveryStepKeepsTheInvariant : kept.Wf := by
  refine ⟨?_, ?_, ?_, ?_, ?_, ?_, ?_, ?_, ?_, ?_, ?_, ?_, ?_, ?_⟩ <;> decide +kernel

theorem witness_RecordsBecomeFreeInThreeWays :
    let s := asked 0x40 [] retired
    exec .nextAttention s = .next (after .nextAttention s) ∧ (s.record 5).state ≠ .free ∧
    ((after .nextAttention s).record 5).state = .free :=
  ⟨rfl, by decide +kernel⟩

theorem witness_OneEventRaisesForOneSlot :
    exec .selection kept = .next (after .selection kept) := rfl

theorem witness_LastFaultIsTheLatestFault :
    (exec .ctsTimerExpiry raisingLate = .next (after .ctsTimerExpiry raisingLate) ∧
      raisingLate.engine ≠ .fault ∧ (after .ctsTimerExpiry raisingLate).engine = .fault ∧
      (after .ctsTimerExpiry raisingLate).params.lastFault ≠ raisingLate.params.lastFault) ∧
    ({ State.reset with paramIndex := 0x0F }.rstLow = false ∧
      { State.reset with paramIndex := 0x0F }.paramIndex = 0x0F) ∧
    exec .masterReset kept = .next (after .masterReset kept) :=
  ⟨⟨rfl, by decide +kernel⟩, by decide +kernel, rfl⟩

theorem witness_FormatIsFixedWhileTheLineRuns :
    exec (.parameterDataWrite 0x55) kept = .next (after (.parameterDataWrite 0x55) kept) ∧
    kept.engine ≠ .stopped ∧ Instr.parameterDataWrite 0x55 ≠ .masterReset :=
  ⟨rfl, by decide +kernel⟩

/-- Every outbound buffer taken. -/
def buffersTaken (s : State) : State :=
  { s with buffers := Vector.replicate 8 (.group 0xF0 [1] 1), staging := [0x41] }

theorem witness_RefusedCommandsChangeNothing :
    let s := asked 0x24 [5] State.reset
    let u := asked 0x31 [0xFF] (buffersTaken State.reset)
    (exec .pollNow s = .next (after .pollNow s) ∧ s.command.isSome = true ∧
      (after .pollNow s).command = none ∧ (after .pollNow s).result.head? = some 0x17) ∧
    (exec .queueGroupText u = .next (after .queueGroupText u) ∧ u.command.isSome = true ∧
      (after .queueGroupText u).command = none ∧
      (after .queueGroupText u).result.head? = some 0x1D) :=
  ⟨⟨rfl, by decide +kernel⟩, rfl, by decide +kernel⟩

/-! ### Witnesses: line form and host port -/

theorem witness_EveryLineFormIsReceivedGood :
    legalPair 0x96 0x9A = true ∧
    (validKind false 0xA2 = true ∧ kindHasLength 0xA2 = true ∧
      1 ≤ (List.replicate 128 (0x96 : Octet)).length ∧
      (List.replicate 128 (0x96 : Octet)).length ≤ 128 ∧ (0xA2 : Octet) ≠ kindStatus) ∧
    (validKind false 0xA5 = true ∧ (0xA5 : Octet) = kindStatus ∧ [(0x10 : Octet)].length = 1) ∧
    (validKind false 0xA3 = true ∧ kindHasLength 0xA3 = false) ∧
    (validKind true 0xCF = true ∧ kindHasLength 0xCF = true) := by decide +kernel

theorem witness_LineFormIsTransparent : legalPair 0x96 0x9A = true := by decide

theorem witness_AcceptanceCopiesTheArguments :
    State.reset.rstLow = false ∧ State.reset.command = none := by decide +kernel

theorem witness_PortWritesReachTheirOwnState :
    State.reset.rstLow = false ∧ (asked 0x30 [5] State.reset).command.isSome = true ∧
    { State.reset with argumentBlock := List.replicate 7 0 }.argumentBlock.length < 8 ∧
    8 ≤ { State.reset with argumentBlock := List.replicate 8 0 }.argumentBlock.length ∧
    { State.reset with staging := List.replicate 127 0 }.staging.length < 128 ∧
    128 ≤ { State.reset with staging := List.replicate 128 0 }.staging.length := by decide +kernel

theorem witness_PortReadsReturnAndAdvance :
    let s := { State.reset with result := [0x00, 0x02], resultCursor := 1 }
    let u := { State.reset with inbound := [{ slot := 2, address := 0x23, text := [0x41] }] }
    s.rstLow = false ∧ s.result[s.resultCursor]? = some 0x02 ∧
    { s with resultCursor := 2 }.result.length ≤ { s with resultCursor := 2 }.resultCursor ∧
    (u.inbound = { slot := 2, address := 0x23, text := [0x41] } :: [] ∧
      [(0x41 : Octet)][u.inboundCursor]? = some 0x41) ∧
    (∀ x ∈ u.inbound.head?, x.text.length ≤ { u with inboundCursor := 1 }.inboundCursor) := by
  decide +kernel

theorem witness_ParameterIndexIsWrittenAndAdvances :
    kept.rstLow = false ∧ exec .parameterDataRead kept = .next (after .parameterDataRead kept) ∧
    exec (.parameterDataWrite 0) kept = .next (after (.parameterDataWrite 0) kept) :=
  ⟨by decide +kernel, rfl, rfl⟩

theorem witness_ParameterWritesAreJudged_legal :
    State.reset.rstLow = false ∧ State.reset.params.Legal ∧
    State.reset.writeIsLegal 0x00 0x55 ∧ State.reset.writeIsLegal 0x05 0xFF ∧
    { State.reset with params := { Params.default with divisorLowHeld := 12 } }.writeIsLegal 0x06 0 ∧
    State.reset.writeIsLegal 0x0B 7 ∧ State.reset.writeIsLegal 0x0C 15 := by
  simp +decide [State.writeIsLegal]

theorem witness_ParameterWritesAreJudged_refused :
    ¬ (inEngine .gap State.reset).writeIsLegal 0x00 0x55 ∧
    ¬ State.reset.writeIsLegal 0x00 0x1A ∧ ¬ State.reset.writeIsLegal 0x01 0x16 ∧
    ¬ State.reset.writeIsLegal 0x0B 8 ∧ ¬ State.reset.writeIsLegal 0x0C 3 ∧
    ¬ State.reset.writeIsLegal 0x0F 0 := by
  simp +decide [State.writeIsLegal]

theorem witness_CommandsAreJudgedByCodeThenArguments :
    (∃ k, (asked 0x18 [] State.reset).command = some k ∧ isCommandCode k.code = false) ∧
    (∃ k, (asked 0x10 [0x21] State.reset).command = some k ∧ State.reset.lineTest = none ∧
      (.admitStation, 0x10, 3, 3) ∈ commandRows ∧ k.code = 0x10 ∧ k.args.length ≠ 3) ∧
    (.lineTest, 0x53, 0, 1) ∈ commandRows :=
  ⟨⟨_, rfl, by decide +kernel⟩, ⟨_, rfl, rfl, by decide +kernel⟩, by decide +kernel⟩

/-! ### Witnesses: Station Table -/

theorem witness_AdmitStationTakesTheLowestFreeSlot :
    let s := asked 0x10 [0xEF, 0xFE, 0] State.reset
    let u := asked 0x10 [1, 0, 0xFF] (State.reset.setRecord 0 (station .retiring))
    (s.inHand 0x10 [0xEF, 0xFE, 0] ∧ (0xEF : Octet).toNat ≤ 0xEF ∧
      0xF0 ≤ (0xFE : Octet).toNat ∧ (0xFE : Octet).toNat ≤ 0xFE ∧ (s.record 0).state = .free ∧
      (∀ j : Slot, (s.record j).state ≠ .free → (s.record j).address ≠ 0xEF)) ∧
    (u.inHand 0x10 [1, 0, 0xFF] ∧ 1 ≤ (1 : Octet).toNat ∧ (u.record 1).state = .free ∧
      (∀ j : Slot, j < 1 → (u.record j).state ≠ .free) ∧
      (∀ j : Slot, (u.record j).state ≠ .free → (u.record j).address ≠ 1)) := by decide +kernel

theorem witness_FindStationAnswersByAddress :
    let s := withStation (station .retiring)
    ((asked 0x11 [0xF0] s).inHand 0x11 [0xF0] ∧ 0xEF < (0xF0 : Octet).toNat) ∧
    ((asked 0x11 [0xEF] s).inHand 0x11 [0xEF] ∧ (0xEF : Octet).toNat ≤ 0xEF ∧
      (∀ j : Slot, (s.record j).state ≠ .free → (s.record j).address ≠ 0xEF)) ∧
    ((asked 0x11 [0x21] s).inHand 0x11 [0x21] ∧ (asked 0x11 [0x21] s).AddressWf ∧
      (s.record 5).state ≠ .free ∧ (s.record 5).address = 0x21) := by decide +kernel

theorem witness_ReadStationReportsTheRecord :
    (asked 0x12 [39] State.reset).inHand 0x12 [slotOctet 39] := by decide +kernel

theorem witness_OneRecordCommandsChangeOneField :
    let at' := fun (st : Lifecycle) (code : Octet) (args : List Octet) =>
      asked code args (withStation (station st))
    let s := at' (.inService .staged) 0x13 [slotOctet 5, 1, 0xEF]
    let u := at' (.held .active) 0x13 [slotOctet 5, 1, 1]
    (s.inHand 0x13 [slotOctet 5, 1, 0xEF] ∧ (s.record 5).state = .inService .staged ∧
      (∀ j : Slot, j ≠ 5 → (s.record j).state ≠ .free → (s.record j).address ≠ 0xEF)) ∧
    (u.inHand 0x13 [slotOctet 5, 1, 1] ∧ (u.record 5).state = .held .active ∧
      (∀ j : Slot, j ≠ 5 → (u.record j).state ≠ .free → (u.record j).address ≠ 1)) ∧
    ((at' (.inService .lost) 0x13 [5, 2, 0xFE]).inHand 0x13 [slotOctet 5, 2, 0xFE] ∧
      (0xFE : Octet).toNat ≤ 0xFE) ∧
    (at' (.inService .lost) 0x13 [5, 3, 0]).inHand 0x13 [slotOctet 5, 3, 0] ∧
    (at' (.inService .lost) 0x13 [5, 4, 0]).inHand 0x13 [slotOctet 5, 4, 0] ∧
    ((at' (.inService .lost) 0x13 [5, 4, 0]).record 5).state.isEnlisted = true ∧
    ((at' (.inService .suspect) 0x17 [5]).inHand 0x17 [slotOctet 5] ∧
      ((at' (.inService .suspect) 0x17 [5]).record 5).state.isVisited = true) := by
  decide +kernel

theorem witness_HoldAndReleaseMoveTheStation :
    let at' := fun (st : Lifecycle) (code : Octet) => asked code [5] (withStation (station st))
    ((at' (.inService .lost) 0x14).inHand 0x14 [slotOctet 5] ∧
      ((at' (.inService .lost) 0x14).record 5).state = .inService .lost) ∧
    ((at' (.held .suspect) 0x15).inHand 0x15 [slotOctet 5] ∧
      ((at' (.held .suspect) 0x15).record 5).state = .held .suspect) ∧
    ((at' (.held .staged) 0x15).record 5).state = .held .staged ∧
    ((at' (.held .lost) 0x15).record 5).state = .held .lost := by decide +kernel

/-- RETIRE STATION for slot 5 with two ring entries, one under the cursor. -/
def retiring : State :=
  asked 0x16 [5]
    { withStation { station (.held .lost) with ringCount := 2 } with
      ring := [3, 5, 5], ringCursor := 2 }

theorem witness_RetireStationPurgesTheSlot :
    retiring.inHand 0x16 [slotOctet 5] ∧ (retiring.record 5).state.isEnlisted = true := by
  decide +kernel

theorem witness_RetirePurgeKeepsTheCursorsPlace :
    retiring.inHand 0x16 [slotOctet 5] ∧ (retiring.record 5).state.isEnlisted = true ∧
    retiring.ringCursor < retiring.ring.length ∧
    exec .retireStation retiring = .next (after .retireStation retiring) :=
  ⟨by decide +kernel, by decide +kernel, by decide +kernel, rfl⟩

theorem witness_TableResetEmptiesTheTable :
    let s := asked 0x1F [] State.reset
    (s.inHand 0x1F [] ∧ s.engine = .stopped) ∧
    ((inEngine .fault s).inHand 0x1F [] ∧ (inEngine .fault s).engine ≠ .stopped) := by
  decide +kernel

theorem witness_StationCommandsAreRefused_slot :
    let s := fun (code : Octet) (args : List Octet) => asked code args State.reset
    40 ≤ (40 : Octet).toNat ∧ (s 0x12 [40]).inHand 0x12 [40] ∧
    (s 0x13 [40, 1, 0]).inHand 0x13 [40, 1, 0] ∧ (s 0x13 [40, 2, 0]).inHand 0x13 [40, 2, 0] ∧
    (s 0x13 [40, 3, 0]).inHand 0x13 [40, 3, 0] ∧ (s 0x13 [40, 4, 0]).inHand 0x13 [40, 4, 0] ∧
    (s 0x14 [40]).inHand 0x14 [40] ∧ (s 0x15 [40]).inHand 0x15 [40] ∧
    (s 0x16 [40]).inHand 0x16 [40] ∧ (s 0x17 [40]).inHand 0x17 [40] ∧
    (s 0x20 [0, 40]).inHand 0x20 [0, 40] ∧ (s 0x24 [40]).inHand 0x24 [40] ∧
    (s 0x30 [40]).inHand 0x30 [40] ∧ (s 0x32 [40]).inHand 0x32 [40] := by decide +kernel

/-- A table of forty stations, at addresses 1 to 40. -/
def fullTable : State :=
  { State.reset with
    records := Vector.ofFn fun i =>
      { station (.inService .active) with address := octetOfNat (i.val + 1) } }

theorem witness_StationCommandsAreRefused_admit :
    (asked 0x10 [0xF0, 0, 0] State.reset).inHand 0x10 [0xF0, 0, 0] ∧ 0xEF < (0xF0 : Octet).toNat ∧
    ((asked 0x10 [40, 0, 0] fullTable).inHand 0x10 [40, 0, 0] ∧
      (fullTable.record 39).state ≠ .free ∧ (fullTable.record 39).address = 40) ∧
    ((asked 0x10 [41, 0, 0] fullTable).inHand 0x10 [41, 0, 0] ∧
      ∀ j : Slot, (fullTable.record j).state ≠ .free ∧ (fullTable.record j).address ≠ 41) ∧
    ((asked 0x10 [40, 0xF0, 0] fullTable).inHand 0x10 [40, 0xF0, 0] ∧
      0xF0 ≤ (0xF0 : Octet).toNat) ∧
    ((asked 0x10 [41, 0xFE, 0] fullTable).inHand 0x10 [41, 0xFE, 0] ∧
      (0xFE : Octet).toNat ≤ 0xFE) := by decide +kernel

theorem witness_StationCommandsAreRefused_state :
    let at' := fun (st : Lifecycle) (code : Octet) (args : List Octet) =>
      asked code args (withStation (station st))
    let free := fun (code : Octet) (args : List Octet) => asked code args State.reset
    ((at' (.held .lost) 0x13 [5, 5, 0]).inHand 0x13 [slotOctet 5, 5, 0] ∧ 4 < (5 : Octet).toNat) ∧
    ((State.reset.record 5).state.isEnlisted = false ∧
      (free 0x13 [5, 1, 0]).inHand 0x13 [slotOctet 5, 1, 0] ∧
      (free 0x13 [5, 2, 0]).inHand 0x13 [slotOctet 5, 2, 0] ∧
      (free 0x13 [5, 3, 0]).inHand 0x13 [slotOctet 5, 3, 0] ∧
      (free 0x13 [5, 4, 0]).inHand 0x13 [slotOctet 5, 4, 0]) ∧
    ((at' (.inService .suspect) 0x13 [5, 1, 1]).inHand 0x13 [slotOctet 5, 1, 1] ∧
      (Lifecycle.inService .suspect).isVisited = true) ∧
    ((at' (.inService .staged) 0x13 [5, 1, 0xF0]).inHand 0x13 [slotOctet 5, 1, 0xF0] ∧
      (Lifecycle.inService .staged).isProbed = true ∧ 0xEF < (0xF0 : Octet).toNat) ∧
    ((at' (.held .lost) 0x13 [5, 2, 0xFF]).inHand 0x13 [slotOctet 5, 2, 0xFF] ∧
      (Lifecycle.held .lost).isEnlisted = true) ∧
    ((at' (.held .lost) 0x14 [5]).inHand 0x14 [slotOctet 5] ∧
      ((at' (.held .lost) 0x14 [5]).record 5).state = .held .lost) ∧
    (free 0x14 [5]).inHand 0x14 [slotOctet 5] ∧
    ((free 0x15 [5]).inHand 0x15 [slotOctet 5] ∧
      ((free 0x15 [5]).record 5).state = .free) ∧
    ((at' .retiring 0x16 [5]).inHand 0x16 [slotOctet 5] ∧
      ((at' .retiring 0x16 [5]).record 5).state = .retiring) ∧
    (free 0x16 [5]).inHand 0x16 [slotOctet 5] ∧
    ((at' (.inService .lost) 0x17 [5]).inHand 0x17 [slotOctet 5] ∧
      (Lifecycle.inService .lost).isProbed = true) := by decide +kernel

theorem witness_StationCommandsAreRefused_address_in_use :
    let s := asked 0x13 [5, 1, 0x22]
      ((withStation (station (.inService .lost))).setRecord 6
        { station .retiring with address := 0x22 })
    let held := s.modRecord 5 fun r => { r with state := .held .suspect }
    (s.inHand 0x13 [slotOctet 5, 1, 0x22] ∧ (s.record 5).state.isProbed = true ∧
      (6 : Slot) ≠ 5 ∧ (s.record 6).state ≠ .free ∧ (s.record 6).address = 0x22) ∧
    (held.inHand 0x13 [slotOctet 5, 1, 0x22] ∧ (held.record 5).state = .held .suspect ∧
      (held.record 6).state ≠ .free ∧ (held.record 6).address = 0x22) := by decide +kernel

/-! ### Witnesses: ring and urgent list -/

theorem witness_RingEditsKeepTheCursorsPlace :
    let s := asked 0x20 [3, 5]
      { withStation (station (.inService .staged)) with ring := [1, 2, 1], ringCursor := 2 }
    let u := asked 0x21 [2] { State.reset with ring := [1, 2, 1], ringCursor := 2 }
    (s.inHand 0x20 [3, slotOctet 5] ∧ (s.record 5).state.isEnlisted = true ∧
      (3 : Octet).toNat ≤ s.ring.length ∧ s.ring.length < 64 ∧ (s.record 5).ringCount < 4 ∧
      (s.ring = [] → s.ringCursor = 0) ∧ s.ringCursor < s.ring.length) ∧
    (u.inHand 0x21 [2] ∧ u.ring[(2 : Octet).toNat]? = some 1 ∧ u.ringCursor < u.ring.length) ∧
    ((asked 0x21 [3] u).inHand 0x21 [3] ∧ u.ring.length ≤ (3 : Octet).toNat) := by decide +kernel

theorem witness_ReportsChangeNothing :
    let s := { State.reset with ring := [1, 2] }
    ((asked 0x22 [1] s).inHand 0x22 [1] ∧ s.ring[(1 : Octet).toNat]? = some 2) ∧
    ((asked 0x22 [2] s).inHand 0x22 [2] ∧ s.ring.length ≤ (2 : Octet).toNat) ∧
    (asked 0x23 [] s).inHand 0x23 [] ∧ (asked 0x36 [] s).inHand 0x36 [] := by decide +kernel

theorem witness_PollNowAppendsTheSlot :
    let s := asked 0x24 [5] (withStation (station (.inService .lost)))
    let u := asked 0x20 [0, 5] (withStation (station (.inService .lost)))
    (s.inHand 0x24 [slotOctet 5] ∧ (s.record 5).state.isInService = true ∧ 5 ∉ s.urgent ∧
      { s with urgent := [1, 2, 3] }.urgent.length < 4) ∧
    5 ∈ { s with urgent := [5] }.urgent ∧
    (5 ∉ { s with urgent := [1, 2, 3, 4] }.urgent ∧
      4 ≤ { s with urgent := [1, 2, 3, 4] }.urgent.length) ∧
    (State.reset.record 5).state.isInService = false ∧
    (u.inHand 0x20 [0, slotOctet 5] ∧ (u.record 5).state.isEnlisted = true ∧
      (0 : Octet).toNat ≤ u.ring.length) ∧
    ((asked 0x20 [1, 5] u).inHand 0x20 [1, slotOctet 5] ∧ u.ring.length < (1 : Octet).toNat) ∧
    64 ≤ { u with ring := List.replicate 64 1 }.ring.length ∧
    4 ≤ ((u.setRecord 5 { station (.inService .lost) with ringCount := 4 }).record 5).ringCount := by
  decide +kernel

/-! ### Witnesses: Text Store -/

theorem witness_StagingTextIsQueuedOrCleared :
    let s := { withStation (station (.held .lost)) with staging := [0x41] }
    (asked 0x33 [] s).inHand 0x33 [] ∧
    (s.buffers[0] = .free ∧ s.staging ≠ [] ∧ s.stagingOverflow = false) ∧
    ((asked 0x30 [5] s).inHand 0x30 [slotOctet 5] ∧ (s.record 5).state.isEnlisted = true ∧
      (s.record 5).state ≠ .inService .lost ∧ (s.record 5).outboundText = none) ∧
    ((asked 0x31 [0xF0] s).inHand 0x31 [0xF0] ∧ 0xF0 ≤ (0xF0 : Octet).toNat) := by decide +kernel

theorem witness_CancelTextWithdrawsTheText :
    let s := asked 0x32 [5] (withText (station .retiring) (.filled 5 [1]))
    let u := asked 0x32 [5] (withText (station .retiring) (.inFlight 5 [1]))
    (s.inHand 0x32 [slotOctet 5] ∧ (s.record 5).state ≠ .free ∧
      (s.record 5).outboundText = some 4 ∧ s.buffers[4] = .filled 5 [1]) ∧
    (u.inHand 0x32 [slotOctet 5] ∧ u.buffers[4] = .inFlight 5 [1]) := by decide +kernel

theorem witness_InboundTextIsReadAndReleased :
    let s := { State.reset with inbound := [{ slot := 5, address := 0x21, text := [1] }] }
    (asked 0x34 [] State.reset).inHand 0x34 [] ∧ (asked 0x35 [] State.reset).inHand 0x35 [] ∧
    State.reset.inbound = [] ∧ (asked 0x34 [] s).inHand 0x34 [] ∧ (asked 0x35 [] s).inHand 0x35 [] ∧
    s.inbound = { slot := 5, address := 0x21, text := [1] } :: [] := by decide +kernel

theorem witness_TextCommandsAreRefused :
    let q := fun (st : Lifecycle) => asked 0x30 [5] (withStation (station st))
    let w := asked 0x30 [5] (withText (station (.held .lost)) (.filled 5 [1]))
    let g := fun (a : Octet) (s : State) => asked 0x31 [a] s
    ((q (.inService .lost)).inHand 0x30 [slotOctet 5] ∧
      ((q (.inService .lost)).record 5).state = .inService .lost) ∧
    ((q .free).record 5).state.isEnlisted = false ∧
    (w.inHand 0x30 [slotOctet 5] ∧ (w.record 5).outboundText.isSome = true) ∧
    (((q (.inService .staged)).record 5).outboundText = none ∧
      (q (.inService .staged)).staging = []) ∧
    ((buffersTaken (q (.inService .staged))).staging ≠ [] ∧
      ∀ b : BufferNo, (buffersTaken (q (.inService .staged))).buffers[b.val] ≠ .free) ∧
    ((g 0xEF State.reset).inHand 0x31 [0xEF] ∧ (0xEF : Octet).toNat < 0xF0) ∧
    ((g 0xF0 State.reset).inHand 0x31 [0xF0] ∧ State.reset.staging = []) ∧
    (g 0xFF (buffersTaken State.reset)).stagingOverflow = false ∧
    ((asked 0x32 [5] State.reset).inHand 0x32 [slotOctet 5] ∧
      (State.reset.record 5).state = .free) ∧
    (((q (.inService .lost)).record 5).state ≠ .free ∧
      ((q (.inService .lost)).record 5).outboundText = none) := by decide +kernel

theorem witness_NextAttentionTakesTheHead :
    (asked 0x40 [] State.reset).inHand 0x40 [] ∧ State.reset.attention = [] ∧
    (asked 0x40 [] retired).inHand 0x40 [] ∧ retired.attention = 5 :: [] := by decide +kernel

/-! ### Witnesses: Line Engine -/

theorem witness_StartAndStopLineMoveTheEngine :
    (asked 0x50 [] State.reset).inHand 0x50 [] ∧ State.reset.engine = .stopped ∧
    (kept.engine ≠ .stopped ∧ kept.engine ≠ .fault ∧ (asked 0x50 [] kept).inHand 0x50 []) ∧
    (asked 0x51 [] kept).inHand 0x51 [] ∧ kept.engine = .gap ∧
    ((asked 0x51 [] raisingLate).inHand 0x51 [] ∧ raisingLate.engine.inExchange = true) := by
  decide +kernel

/-- A TEXT of slot 5 in flight in buffer 4. -/
def inText (r : Record) (p : Point) : State :=
  { withText r (.inFlight 5 [0x41]) with
    engine := .sending, context := some (contextOf (.text 5 4) p) }

theorem witness_AbortLineAbandonsTheExchange :
    let s := fun (x : State) => asked 0x52 [] x
    let a := s (inText (station (.held .lost)) .whollySent)
    let b := s (inText { station (.inService .active) with cancelRequested := true } .notSent)
    let c := s (inText { station .retiring with inboundCount := 1 } .notSent)
    let d := s (inText (station .retiring) .notSent)
    let e := s { sending (.poll 5) 0 with records := (withStation (station .retiring)).records }
    ((s State.reset).inHand 0x52 [] ∧ State.reset.context = none) ∧
    ((s (sending (.group 0) 0)).inHand 0x52 [] ∧
      (sending (.group 0) 0).context = some (contextOf (.group 0) .notSent)) ∧
    ((sending (.sync 5) 0).context = some (contextOf (.sync 5) .notSent) ∧
      ((sending (.sync 5) 0).record 5).state ≠ .retiring) ∧
    (a.inHand 0x52 [] ∧ a.context = some (contextOf (.text 5 4) .whollySent) ∧
      (a.record 5).outboundText = some 4 ∧ a.buffers[4] = .inFlight 5 [0x41] ∧
      (a.record 5).state.isEnlisted = true ∧ (a.record 5).cancelRequested = false) ∧
    ((b.record 5).state.isEnlisted = true ∧ (b.record 5).cancelRequested = true) ∧
    ((c.record 5).state = .retiring ∧ 0 < (c.record 5).inboundCount) ∧
    (d.inHand 0x52 [] ∧ d.context = some (contextOf (.text 5 4) .notSent) ∧
      (d.record 5).outboundText = some 4 ∧ d.buffers[4] = .inFlight 5 [0x41] ∧
      (d.record 5).state = .retiring ∧ (d.record 5).inboundCount = 0) ∧
    (e.inHand 0x52 [] ∧ e.context = some (contextOf (.poll 5) .notSent) ∧
      (e.record 5).state = .retiring ∧ (e.record 5).outboundText = none) := by decide +kernel

/-- TESTING with the TEST block of one octet sent up to its pads, and the receiver one octet short of the block's end. -/
def testing (v : Option Verdict) : State :=
  { asked 0x53 [] State.reset with
    engine := .testing
    framer :=
      some
        { buildFrame Params.default 0xCF 0x00 0x00 (some [0x41]) with
          sent := (buildFrame Params.default 0xCF 0x00 0x00 (some [0x41])).crcEnd }
    receiver := heard true (wire 0xCF 0x00 0x00 (some [0x41]))
    lineTest := some { text := [0x41], verdict := v } }

/-- R122, R125: an octet that breaks an escape leaves escape open no, as it is in ENDED. -/
theorem test_escape_open_after_a_broken_pair :
    let rx := heard true [0xCF, 0x9A, 0x55]
    rx.escapeOpen = true ∧ (left (rx.take 0x96 0x9A true 0x55)).escapeOpen = false ∧
    (left (rx.take 0x96 0x9A true 0x55)).phase = .ended := by decide +kernel

/-- R122, R125: the pair that ends the CRC 0xC196 closes the escape and is the last of n + 6 decoded octets. -/
theorem test_lineTest_judged :
    let block := wire 0xCF 0x00 0x00 (some [0xA0])
    let t := after (.blockJudged 0x16)
      { testing none with
        receiver := heard true block, lineTest := some { text := [0xA0], verdict := none } }
    block.drop 5 = [0xC1, 0x9A, 0x16] ∧ t.receiver.phase = .ended ∧ t.receiver.decoded = 7 ∧
    t.receiver.escapeOpen = false ∧ t.lineTest.map (·.verdict) = some (some .pass) := by
  decide +kernel

theorem witness_LineTestComparesTheLoop :
    let o := (wire 0xCF 0x00 0x00 (some [0x41])).getLastD 0
    let s := asked 0x53 [] State.reset
    (s.inHand 0x53 [] ∧ s.lineTest = none ∧ s.engine = .stopped ∧ s.staging = []) ∧
    { s with staging := [0x41] }.staging ≠ [] ∧ (inEngine .gap s).engine ≠ .stopped ∧
    ({ testing none with replyTimer := running }.inHand 0x53 [] ∧
      { testing none with replyTimer := running }.replyTimer.isSome = true) ∧
    ((testing none).engine = .testing ∧
      (testing none).lineTest = some { text := [0x41], verdict := none } ∧
      (testing none).receiver.phase = .body ∧ (testing none).framer.isSome = true ∧
      (testing none).takeOctet o =
        .judged (left ((testing none).takeOctet o)) (.good kindTest 0x00 0x00 [0x41])) ∧
    ({ testing none with framer := none }.framer = none ∧
      (testing none).takeOctet (o - 1) =
        .judged (left ((testing none).takeOctet (o - 1))) (.bad .crcError)) ∧
    (∃ f ∈ (testing (some .pass)).framer, f.crcEnd ≤ f.sent) ∧
    ({ testing none with receiver := { Receiver.off with phase := .aligned } }.engine = .testing ∧
      { testing none with receiver := { Receiver.off with phase := .aligned } }.receiver.phase =
        .aligned) := by decide +kernel

theorem witness_ModemChangesMoveTheEngine :
    (true ≠ raisingLate.cts ∧ raisingLate.engine = .raising) ∧
    (false ≠ (sending (.poll 5) 0).cts ∧ (sending (.poll 5) 0).engine = .sending) ∧
    (true ≠ kept.cts ∧ (kept.engine = .raising → true = false) ∧
      (kept.engine = .sending → true = true)) ∧
    (false ≠ (hunting .aligned).dcd ∧ (hunting .aligned).engine = .listening ∧
      (hunting .aligned).receiver.phase = .aligned) ∧
    (false ≠ (replying kept (.poll 5) [0xA1]).dcd ∧
      (replying kept (.poll 5) [0xA1]).engine = .receiving) ∧
    (false ≠ { inEngine .settling kept with dcd := true }.dcd ∧
      { inEngine .settling kept with dcd := true }.engine = .settling) ∧
    true ≠ kept.dcd := by decide +kernel

/-- SETTLING with DCD active. -/
def settling : State := { inEngine .settling kept with dcd := true, settleTimer := running }

theorem witness_FaultsAbandonTheExchange :
    (raisingLate.engine = .raising ∧ raisingLate.ctsTimer.isSome = true) ∧
    ({ sending (.poll 5) 0 with ctsLoss := true }.engine = .sending ∧
      { sending (.poll 5) 0 with ctsLoss := true }.ctsLoss = true) ∧
    (settling.engine = .settling ∧ settling.settleTimer.isSome = true ∧ settling.dcd = true ∧
      settling.context = none) := by decide +kernel

theorem witness_FaultsAbandonTheExchange_exchanges :
    let cut := fun (r : Record) => { inText r .whollySent with ctsLoss := true }
    let late := fun (r : Record) =>
      { inText r .notSent with engine := .raising, ctsTimer := running }
    let polled := { raisingLate with records := (withStation (station .retiring)).records }
    let pending := { station (.inService .lost) with cancelRequested := true, retryCount := 1 }
    ((cut (station (.held .active))).engine = .sending ∧
      (cut (station (.held .active))).ctsLoss = true ∧
      (cut (station (.held .active))).context = some (contextOf (.text 5 4) .whollySent) ∧
      ((cut (station (.held .active))).record 5).outboundText = some 4 ∧
      (cut (station (.held .active))).buffers[4] = .inFlight 5 [0x41] ∧
      (station (.held .active)).state.isEnlisted = true ∧
      (station (.held .active)).cancelRequested = false) ∧
    ((late pending).engine = .raising ∧ (late pending).ctsTimer.isSome = true ∧
      (late pending).context = some (contextOf (.text 5 4) .notSent) ∧
      ((late pending).record 5).outboundText = some 4 ∧
      (late pending).buffers[4] = .inFlight 5 [0x41] ∧ pending.state.isEnlisted = true ∧
      pending.cancelRequested = true) ∧
    ((cut (station .retiring)).record 5).state = .retiring ∧
    ((late { station .retiring with inboundCount := 2 }).record 5).inboundCount = 2 ∧
    (polled.engine = .raising ∧ polled.ctsTimer.isSome = true ∧
      polled.context = some (contextOf (.poll 5) .notSent) ∧
      (polled.record 5).state = .retiring ∧ (polled.record 5).outboundText = none) ∧
    ({ sending (.group 4) 0 with ctsLoss := true }.context =
      some (contextOf (.group 4) .notSent)) := by decide +kernel

theorem witness_TimersExpire :
    (kept.engine = .gap ∧ kept.gapTimer.isSome = true) ∧ kept.probeTimer.isSome = true ∧
    ((hunting .hunting).engine = .listening ∧ (hunting .hunting).replyTimer.isSome = true ∧
      (hunting .hunting).stopRequested = false ∧ (hunting .hunting).params.turnaroundGap ≠ 0) ∧
    { hunting .hunting with stopRequested := true }.stopRequested = true ∧
    { hunting .hunting with params := { Params.default with turnaroundGap := 0 } }.params.turnaroundGap
      = 0 := by decide +kernel

theorem witness_FramerPointsMoveTheExchange :
    let s := fun (x : Exchange) (n : Nat) => sending x n
    let grouped := fun (n : Nat) =>
      { s (.group 4) 8 with buffers := State.reset.buffers.set 4 (.group 0xF0 [1] n) }
    ((s (.poll 5) 7).engine = .sending ∧
      (s (.poll 5) 7).context = some (contextOf (.poll 5) .notSent) ∧
      (∃ f ∈ (s (.poll 5) 7).framer, f.sent < f.crcEnd)) ∧
    ((∃ f ∈ (s (.poll 5) 8).framer, f.crcEnd ≤ f.sent) ∧ (s (.poll 5) 8).ctsLoss = false ∧
      (Exchange.poll 5).slot?.isSome = true) ∧
    ((grouped 2).context = some (contextOf (.group 4) .notSent) ∧
      (grouped 2).buffers[4] = .group 0xF0 [1] 2 ∧ 1 < 2) ∧
    (grouped 1).buffers[4] = .group 0xF0 [1] 1 := by decide +kernel

/-! ### Witnesses: receiver and selection -/

theorem witness_LeadIsHuntedAndDetected :
    let s := hunting .hunting
    let lead := List.ofFn fun k : Fin 8 => s.params.leadOctet.getLsbD k.val
    (s.engine = .listening ∧ s.dcd = true ∧ s.receiver.phase = .hunting ∧
      s.receiver.window.length ≤ 8) ∧
    (lastEight s.receiver.window (true :: lead) = lead ∧
      (∀ n < 9, 0 < n → lastEight s.receiver.window ((true :: lead).take n) ≠ lead)) ∧
    (lastEight s.receiver.window ((true :: lead ++ [true]).take 9) = lead ∧
      9 ≤ (true :: lead ++ [true]).length) ∧
    (∀ n < 2, 0 < n → lastEight s.receiver.window ([true].take n) ≠ lead) ∧
    ((hunting .aligned).receiver.phase = .aligned ∧ (0x3C : Octet) ≠ s.params.leadOctet) ∧
    ({ testing none with receiver := Receiver.startHunt }.engine = .testing ∧
      { testing none with receiver := Receiver.startHunt }.receiver.phase = .hunting ∧
      { testing none with receiver := Receiver.startHunt }.receiver.window.length ≤ 8) ∧
    { testing none with receiver := { Receiver.off with phase := .aligned } }.receiver.phase =
      .aligned := by decide +kernel

/-- RECEIVING after some octets of a block. -/
def partway (block : List Octet) : State :=
  { replying State.reset (.poll 5) [] with receiver := heard false (block ++ [0]) }

/-- TESTING after some octets of a TEST block. -/
def looping (block : List Octet) : State :=
  { testing none with receiver := heard true (block ++ [0]) }

/-- The premises common to every octet of a body, with the number of octets decoded. -/
abbrev InBody (s : State) (escape : Bool) (n : Nat) : Prop :=
  (s.engine = .receiving ∨ s.engine = .testing) ∧ s.receiver.phase = .body ∧ s.params.Legal ∧
  s.receiver.escapeOpen = escape ∧ s.receiver.decoded = n

theorem witness_BodyOctetsAreDecodedByPlace :
    (InBody (partway []) false 0 ∧ (0xA5 : Octet) ≠ 0x96 ∧ (0xA5 : Octet) ≠ 0x9A) ∧
    InBody (looping []) false 0 ∧ InBody (partway [0xA2]) false 1 ∧
    (InBody (partway [0xA2, 0x9A]) true 1 ∧ (0x16 : Octet) = 0x96 ^^^ 0x80 ∧
      (0x1A : Octet) = 0x9A ^^^ 0x80 ∧ (0x55 : Octet) ≠ 0x96 ^^^ 0x80 ∧
      (0x55 : Octet) ≠ 0x9A ^^^ 0x80) ∧
    InBody (partway [0xA2, 0x21]) false 2 ∧ InBody (looping [0xCF, 0x9A]) true 1 := by
  refine ⟨?_, ?_, ?_, ?_, ?_, ?_⟩ <;> decide +kernel

theorem witness_BodyOctetsAreDecodedByPlace_length :
    (InBody (partway [0xA2, 0x21, 0]) false 3 ∧
      (partway [0xA2, 0x21, 0]).receiver.length = none ∧
      (partway [0xA2, 0x21, 0]).receiver.kind = 0xA2 ∧ (128 : Octet).toNat ≤ 128 ∧
      ¬ (129 : Octet).toNat ≤ 128 ∧ ¬ 1 ≤ (0 : Octet).toNat) ∧
    (InBody (partway [0xA5, 0x21, 0]) false 3 ∧
      (partway [0xA5, 0x21, 0]).receiver.length = none ∧
      (partway [0xA5, 0x21, 0]).receiver.kind = 0xA5 ∧ (2 : Octet) ≠ 1) ∧
    (InBody (looping [0xCF, 0, 0]) false 3 ∧ (looping [0xCF, 0, 0]).receiver.length = none ∧
      (looping [0xCF, 0, 0]).receiver.kind = 0xCF) := by
  refine ⟨?_, ?_, ?_⟩ <;> decide +kernel

theorem witness_BodyOctetsAreDecodedByPlace_text :
    (InBody (partway [0xA2, 0x21, 0, 128]) false 4 ∧
      (partway [0xA2, 0x21, 0, 128]).receiver.length = some 128) ∧
    (InBody (partway [0xA2, 0x21, 0, 1, 0x41]) false 5 ∧
      (partway [0xA2, 0x21, 0, 1, 0x41]).receiver.length = some 1) ∧
    (InBody (partway [0xA2, 0x21, 0, 1, 0x41, 0xFF]) false 6 ∧
      (partway [0xA2, 0x21, 0, 1, 0x41, 0xFF]).receiver.length = some 1) ∧
    (InBody (testing none) false 6 ∧ (testing none).receiver.length = some 1) ∧
    (InBody (partway [0xA3, 0x21, 0]) false 3 ∧ (partway [0xA3, 0x21, 0]).receiver.kind = 0xA3) ∧
    (InBody (partway [0xA3, 0x21, 0, 0xFF]) false 4 ∧
      (partway [0xA3, 0x21, 0, 0xFF]).receiver.kind = 0xA3) := by
  refine ⟨?_, ?_, ?_, ?_, ?_, ?_⟩ <;> decide +kernel

/-- READY with slot 5 in one state. -/
def ready (r : Record) : State := inEngine .ready (withStation r)

theorem witness_SelectionTakesTheFirstSourceThatOffers :
    let active := station (.inService .active)
    let lost := station (.inService .lost)
    let s := ready active
    let p := { ready lost with probePass := .inProgress, probeCursor := 5 }
    let q := { s with probePass := .pending, ring := [7, 5], ringCursor := 0 }
    (s.engine = .ready ∧ s.stopRequested = false) ∧
    ({ s with followOn := some 5 }.followOn = some 5 ∧ (s.record 5).state.isVisited = true ∧
      (s.record 5).resyncPending = false) ∧
    ((∀ i ∈ { s with urgent := [5] }.followOn, (s.record i).state.isVisited = false) ∧
      { s with urgent := [5] }.urgent = 5 :: []) ∧
    ((ready lost).record 5).state.isProbed = true ∧
    ({ s with groupQueue := [0] }.urgent = [] ∧ { s with groupQueue := [0] }.groupQueue = 0 :: []) ∧
    (p.groupQueue = [] ∧ p.probePass ≠ .none ∧ p.probeCursor ≤ (5 : Slot).val ∧
        (∀ j : Slot, p.probeCursor ≤ j.val → j < 5 → (p.record j).state.isProbed = false)) ∧
    ((∀ j : Slot, q.probeCursor ≤ j.val → (q.record j).state.isProbed = false) ∧
        1 < q.ring.length ∧ q.ringCursor < q.ring.length ∧
        q.ring[(q.ringCursor + 1) % q.ring.length]? = some 5 ∧
        q.ring[(q.ringCursor + 0) % q.ring.length]? = some 7 ∧
        (q.record 7).state.isVisited = false) ∧
    (∀ i ∈ { s with ring := [7] }.ring, (s.record i).state.isVisited = false) := by decide +kernel

theorem witness_SelectionTakesTheFirstSourceThatOffers_visits :
    (ready { station (.inService .active) with resyncPending := true }).visits 5 (.sync 5) ∧
    (inEngine .ready (withText (station (.inService .suspect)) (.filled 5 [1]))).visits 5
      (.text 5 4) ∧
    (ready (station (.inService .active))).visits 5 (.poll 5) :=
  ⟨.inl ⟨by decide +kernel, rfl⟩,
    .inr (.inl ⟨by decide +kernel, by decide +kernel, 4, by decide +kernel, rfl⟩),
    .inr (.inr ⟨by decide +kernel, by decide +kernel, rfl⟩)⟩

theorem witness_SelectedExchangeIsComposed :
    (withText (station (.inService .active)) (.filled 5 [1])).buffers[4] = .filled 5 [1] ∧
    (withText (station (.inService .active)) (.group 0xFF [1] 3)).buffers[4] =
      .group 0xFF [1] 3 := by decide +kernel

/-! ### Witnesses: outcomes -/

/-- The last octet of a block, at which it is judged. -/
def final (block : List Octet) : Octet := block.getLastD 0

/-- A reply in hand to the POLL of slot 5, and one to the TEXT of slot 5. -/
def polled (r : Record) (block : List Octet) : State := replying (withStation r) (.poll 5) block
@[inherit_doc polled]
def texted (r : Record) (block : List Octet) : State :=
  replying (withText r (.inFlight 5 [0x41])) (.text 5 4) block

/-- The contexts of these exchanges. -/
def pollContext : Context := contextOf (.poll 5) .whollySent
@[inherit_doc pollContext]
def textContext : Context := contextOf (.text 5 4) .whollySent

theorem witness_PollRepliesAreApplied :
    let silent := wire 0xA1 0x21 0x00 none
    let text := wire 0xA2 0x21 0x01 (some [0x41])
    let c := pollContext
    let active := station (.inService .active)
    let watched := { station (.inService .suspect) with quietLimit := some 3, quietCount := 2 }
    let held := station (.held .lost)
    let retiring := station .retiring
    (polled active silent).judges (final silent) c (.good 0xA1 c.address 0x00 []) ∧
    ((polled watched silent).judges (final silent) c (.good 0xA1 c.address 0x00 []) ∧
      watched.quietCount + 1 = 3) ∧
    (polled active text).judges (final text) c (.good 0xA2 c.address 0x01 [0x41]) ∧
    ((0x01 : Octet).getLsbD 0 = { active with inToggle := true }.inToggle ∧
      (0x01 : Octet).getLsbD 0 ≠ active.inToggle ∧ c.hSent = false) ∧
    ({ polled active text with context := some { c with hSent := true } }).judges (final text)
      { c with hSent := true } (.good 0xA2 c.address 0x01 [0x41]) ∧
    ((polled held silent).judges (final silent) c (.good 0xA1 c.address 0x00 []) ∧
      (polled held text).judges (final text) c (.good 0xA2 c.address 0x01 [0x41]) ∧
      (0x01 : Octet).getLsbD 0 = { held with inToggle := true }.inToggle ∧
      (0x01 : Octet).getLsbD 0 ≠ held.inToggle) ∧
    ((polled retiring silent).judges (final silent) c (.good 0xA1 c.address 0x00 []) ∧
      (polled retiring text).judges (final text) c (.good 0xA2 c.address 0x01 [0x41]) ∧
      retiring.inboundCount = 0 ∧ { retiring with inboundCount := 1 }.inboundCount ≠ 0) := by
  decide +kernel

theorem witness_TextRepliesAreApplied :
    let ack := wire 0xA3 0x21 0x02 none
    let nak := wire 0xA4 0x21 0x00 none
    let c := textContext
    let active := station (.inService .active)
    let held := station (.held .active)
    let retiring := station .retiring
    ((texted active ack).judges (final ack) c (.good 0xA3 c.address 0x02 []) ∧
      ((texted active ack).record 5).outboundText = some 4 ∧
      (texted active ack).buffers[4] = .inFlight 5 [0x41] ∧ active.state.isVisited = true ∧
      (0x02 : Octet).getLsbD 1 ≠ active.outToggle) ∧
    ((0x02 : Octet).getLsbD 1 = { active with outToggle := true }.outToggle) ∧
    ((texted active nak).judges (final nak) c (.good 0xA4 c.address 0x00 []) ∧
      active.cancelRequested = false ∧ active.retryCount + 1 < Params.default.retryLimit.toNat) ∧
    Params.default.retryLimit.toNat ≤ { active with retryCount := 2 }.retryCount + 1 ∧
    { active with cancelRequested := true }.cancelRequested = true ∧
    ((texted held ack).judges (final ack) c (.good 0xA3 c.address 0x02 []) ∧
      (texted held nak).judges (final nak) c (.good 0xA4 c.address 0x00 [])) ∧
    ((texted retiring ack).judges (final ack) c (.good 0xA3 c.address 0x02 []) ∧
      (texted retiring nak).judges (final nak) c (.good 0xA4 c.address 0x00 []) ∧
      (0x02 : Octet).getLsbD 1 ≠ retiring.outToggle ∧
      (0x02 : Octet).getLsbD 1 = { retiring with outToggle := true }.outToggle) := by
  decide +kernel

theorem witness_StatusReplyResynchronises :
    let status := wire 0xA5 0x21 0x00 (some [0x10])
    let at' := fun (st : Lifecycle) => replying (withStation (station st)) (.sync 5) status
    let c := contextOf (.sync 5) .whollySent
    c.exchange = .sync 5 ∧
    (at' (.inService .staged)).judges (final status) c (.good 0xA5 c.address 0x00 [0x10]) ∧
    (at' (.inService .suspect)).judges (final status) c (.good 0xA5 c.address 0x00 [0x10]) ∧
    ((at' (.held .lost)).judges (final status) c (.good 0xA5 c.address 0x00 [0x10]) ∧
      ((at' (.held .lost)).record 5).state = .held .lost) ∧
    ((at' .retiring).judges (final status) c (.good 0xA5 c.address 0x00 [0x10]) ∧
      ((at' .retiring).record 5).state = .retiring) := by decide +kernel

/-- The five events of a miss, for a POLL and for a TEXT of slot 5, over three states of its record. -/
theorem witness_missEvents :
    ∀ r ∈ [station .retiring, station (.held .staged), station (.inService .suspect)],
    let silent := wire 0xA1 0x21 0x00 none
    let elsewhere := wire 0xA1 0x22 0x00 none
    let ack := wire 0xA3 0x21 0x00 none
    let waits := fun (s : State) =>
      { s with engine := .listening, replyTimer := running, receiver := Receiver.startHunt }
    let poll := fun (s : State) => MissEvent s pollContext
    let text := fun (s : State) => MissEvent s textContext
    (poll (polled r silent) (.blockJudged (final silent + 1)) 0 State.settled ∧
      text (texted r silent) (.blockJudged (final silent + 1)) 0 State.settled) ∧
    (poll (polled r elsewhere) (.blockJudged (final elsewhere)) 0 State.settled ∧
      text (texted r elsewhere) (.blockJudged (final elsewhere)) 0 State.settled) ∧
    (poll (polled r ack) (.blockJudged (final ack)) 0x100 State.settled ∧
      text (texted r silent) (.blockJudged (final silent)) 0x100 State.settled) ∧
    ((∃ finish, poll (polled r ack) (.dcdChange false) 0 finish) ∧
      ∃ finish, text (texted r ack) (.dcdChange false) 0 finish) ∧
    (∃ finish, poll (waits (polled r ack)) .replyTimerExpiry 0 finish) ∧
    ∃ finish, text (waits (texted r ack)) .replyTimerExpiry 0 finish := by
  simp only [List.forall_mem_cons, List.not_mem_nil, false_implies, implies_true, and_true]
  refine ⟨?_, ?_, ?_⟩ <;>
  exact
    ⟨⟨.badBlock (e := .crcError) (by decide +kernel),
        .badBlock (e := .crcError) (by decide +kernel)⟩,
      ⟨.otherAddress (k := 0xA1) (a := 0x22) (ctl := 0) (x := []) (by decide +kernel)
          (by decide +kernel),
        .otherAddress (k := 0xA1) (a := 0x22) (ctl := 0) (x := []) (by decide +kernel)
          (by decide +kernel)⟩,
      ⟨.unexpectedKind (k := 0xA3) (ctl := 0) (x := []) (by decide +kernel) (by decide +kernel),
        .unexpectedKind (k := 0xA1) (ctl := 0) (x := []) (by decide +kernel) (by decide +kernel)⟩,
      ⟨⟨_, .carrierLost (by decide +kernel) (by decide +kernel) (by decide +kernel)⟩,
        ⟨_, .carrierLost (by decide +kernel) (by decide +kernel) (by decide +kernel)⟩⟩,
      ⟨_, .noReply (by decide +kernel) (by decide +kernel) (by decide +kernel)⟩,
      ⟨_, .noReply (by decide +kernel) (by decide +kernel) (by decide +kernel)⟩⟩

theorem witness_MissesMoveTheStanding :
    let silent := wire 0xA1 0x21 0x00 none
    let active := station (.inService .active)
    let sync := replying (withText { station (.inService .staged) with missCount := 7 }
      (.filled 5 [1])) (.sync 5) silent
    (min (active.missCount + 1) 15 < Params.default.lostThreshold.toNat ∧
      min (active.missCount + 1) 15 < Params.default.suspectThreshold.toNat) ∧
    (Params.default.suspectThreshold.toNat ≤ min ({ active with missCount := 2 }.missCount + 1) 15) ∧
    (Params.default.lostThreshold.toNat ≤ min ({ active with missCount := 7 }.missCount + 1) 15 ∧
      active.outboundText = none) ∧
    (sync.judges (final silent) (contextOf (.sync 5) .whollySent) (.good 0xA1 0x21 0 []) ∧
      (0xA1 : Octet) ∉ (Exchange.sync 5).expects ∧ (sync.record 5).outboundText = some 4 ∧
      Params.default.lostThreshold.toNat ≤ min ((sync.record 5).missCount + 1) 15) ∧
    ((polled (station (.held .staged)) silent).record 5).state = .held .staged ∧
    ((polled (station .retiring) silent).record 5).state = .retiring := by decide +kernel

theorem witness_TextMissesRetryOrFail :
    let nak := wire 0xA4 0x21 0x00 none
    let active := station (.inService .active)
    ((texted active nak).judges (final nak + 1) textContext (.bad .crcError) ∧
      ((texted active nak).record 5).outboundText = some 4 ∧
      (texted active nak).buffers[4] = .inFlight 5 [0x41] ∧
      ((texted active nak).record 5).state = .inService .active) ∧
    (Params.default.lostThreshold.toNat ≤ min ({ active with missCount := 7 }.missCount + 1) 15 ∧
      min ({ active with missCount := 6 }.missCount + 1) 15 < Params.default.lostThreshold.toNat) ∧
    (active.cancelRequested = false ∧
      active.retryCount + 1 < Params.default.retryLimit.toNat ∧
      Params.default.retryLimit.toNat ≤ { active with retryCount := 2 }.retryCount + 1) ∧
    { active with cancelRequested := true }.cancelRequested = true ∧
    ((texted (station (.held .staged)) nak).record 5).state = .held .staged ∧
    ((texted (station .retiring) nak).record 5).state = .retiring := by decide +kernel

end Sys2Proof.Tests
end

section
namespace Sys2Proof.Machine

/-! ### What the end of an exchange does to a record, said once -/

/-- The record's own numbers within their values (R1, R5, R17), with no retry and no cancel request without a text (R5). -/
structure Record.Bounded (r : Record) : Prop where
  missCount : r.missCount ≤ 15
  retryCount : r.retryCount ≤ 15
  group : ∀ g ∈ r.group, 0xF0 ≤ g.toNat ∧ g.toNat ≤ 0xFE
  quietLimit : ∀ q ∈ r.quietLimit, 1 ≤ q.toNat
  quietCount : r.quietCount ≤ (r.quietLimit.map (·.toNat)).getD 0
  noText : r.outboundText = none → r.retryCount = 0 ∧ r.cancelRequested = false

/-- The record `r'` is tied to the other blocks as `r` is: its address, its text, its counts of ring entries and inbound
texts, its reasons and its failure cause are the same, and its state is, up to a move within service. -/
structure Record.Turns (r r' : Record) : Prop where
  state : r'.state = r.state ∨ (r.state.isInService = true ∧ r'.state.isInService = true)
  address : r'.address = r.address
  outboundText : r'.outboundText = r.outboundText
  ringCount : r'.ringCount = r.ringCount
  inboundCount : r'.inboundCount = r.inboundCount
  reasons : r'.reasons = r.reasons
  failureCause : r'.failureCause = r.failureCause

/-- A change of the record's own counts, toggles and flags is a turn. -/
theorem Record.Turns.of_same (r r' : Record) (hs : r'.state = r.state)
    (h : (r'.address, r'.outboundText, r'.ringCount, r'.inboundCount, r'.reasons, r'.failureCause) =
      (r.address, r.outboundText, r.ringCount, r.inboundCount, r.reasons, r.failureCause)) :
    r.Turns r' := by
  simp only [Prod.mk.injEq] at h
  obtain ⟨ha, ho, hr, hi, hn, hf⟩ := h
  exact ⟨.inl hs, ha, ho, hr, hi, hn, hf⟩

/-- `t` is reached from `s` by the shared operations on the record `i` that the outcomes of an exchange are made of
(chapter 3). What a step of it needs of its state in order to keep the bounds is asked under `G` alone. -/
inductive Touches (G : Prop) (i : Slot) (s : State) : State → Prop
  | refl : Touches G i s s
  | turn {t : State} (f : Record → Record) (h : Touches G i s t)
    (ht : (t.record i).Turns (f (t.record i)))
    (hb : G → (t.record i).Bounded → (f (t.record i)).Bounded) : Touches G i s (t.modRecord i f)
  | raise {t : State} (r : Reason) (h : Touches G i s t) (hr : r ≠ .retired) (hf : r ≠ .failed) :
    Touches G i s (t.raise i r)
  | raiseFailed {t : State} (c : FailureCause) (h : Touches G i s t) (hc : c ≠ .none) :
    Touches G i s (t.raiseFailed i c)
  | freeText {t : State} (h : Touches G i s t) : Touches G i s (t.freeText i)
  | returnText {t : State} (h : Touches G i s t) (hs : (t.record i).state ≠ .retiring) :
    Touches G i s (t.returnText i)
  | store {t : State} (a : Octet) (x : List Octet) (h : Touches G i s t)
    (hn : t.contextNames i = true)
    (hx : G → t.inbound.length ≤ 1 ∧ isIndividualAddress a = true ∧ 1 ≤ x.length ∧ x.length ≤ 128) :
    Touches G i s (t.storeInbound i a x)
  | follow {t : State} (o : Option Slot) (h : Touches G i s t) :
    Touches G i s { t with followOn := o }

/-- The fields that operations on one record leave are all but those named here. -/
def SlotFrame (s t : State) : Prop :=
  ∃ (rs : Vector Record Config.slots) (l : List Slot) (bs : Vector OutBuffer Config.outboundBuffers)
    (cause wanted : Bool) (inb : List InboundText) (o : Option Slot),
    t = { s with
      records := rs, attention := l, buffers := bs, causeBufferFree := cause
      bufferWanted := wanted, inbound := inb, followOn := o }

theorem SlotFrame.refl (s : State) : SlotFrame s s := ⟨_, _, _, _, _, _, _, rfl⟩

theorem SlotFrame.trans {s t u : State} (h : SlotFrame s t) (h' : SlotFrame t u) :
    SlotFrame s u := by
  obtain ⟨_, _, _, _, _, _, _, rfl⟩ := h
  obtain ⟨_, _, _, _, _, _, _, rfl⟩ := h'
  exact ⟨_, _, _, _, _, _, _, rfl⟩

theorem slotFrame_modRecord (s : State) (i : Slot) (f : Record → Record) :
    SlotFrame s (s.modRecord i f) := ⟨_, _, _, _, _, _, _, rfl⟩

theorem slotFrame_raise (s : State) (i : Slot) (r : Reason) : SlotFrame s (s.raise i r) :=
  ⟨_, _, _, _, _, _, _, s.raise_frame i r⟩

theorem slotFrame_raiseFailed (s : State) (i : Slot) (c : FailureCause) :
    SlotFrame s (s.raiseFailed i c) := by
  unfold State.raiseFailed
  split
  · exact (slotFrame_raise s i _).trans (slotFrame_modRecord _ i _)
  · exact .refl s

theorem slotFrame_freeText (s : State) (i : Slot) : SlotFrame s (s.freeText i) :=
  ⟨_, _, _, _, _, _, _, s.freeText_frame i⟩

theorem slotFrame_returnText (s : State) (i : Slot) : SlotFrame s (s.returnText i) :=
  ⟨_, _, _, _, _, _, _, s.returnText_frame i⟩

theorem slotFrame_testRetired (s : State) (i : Slot) : SlotFrame s (s.testRetired i) :=
  ⟨_, _, _, _, _, _, _, s.testRetired_frame i⟩

/-- Operations on one record leave every other block as it was. -/
theorem Touches.frame {G : Prop} {i : Slot} {s t : State} (h : Touches G i s t) :
    SlotFrame s t := by
  induction h with
  | refl => exact .refl s
  | turn f _ _ _ ih => exact ih.trans (slotFrame_modRecord _ i f)
  | raise r _ _ _ ih => exact ih.trans (slotFrame_raise _ i r)
  | raiseFailed c _ _ ih => exact ih.trans (slotFrame_raiseFailed _ i c)
  | freeText _ ih => exact ih.trans (slotFrame_freeText _ i)
  | returnText _ _ ih => exact ih.trans (slotFrame_returnText _ i)
  | store a x _ _ _ ih => exact ih.trans ⟨_, _, _, _, _, _, _, rfl⟩
  | follow o _ ih => exact ih.trans ⟨_, _, _, _, _, _, _, rfl⟩

end Sys2Proof.Machine
end

section
namespace Sys2Proof.Machine

/-! ### The record and the list after each shared operation -/

/-- FAILED raised where the state allows it, with the failure cause beside it (R96, R98). -/
theorem State.raiseFailed_of_mayRaise (s : State) (i : Slot) (c : FailureCause)
    (h : mayRaise (s.record i).state .failed = true) :
    s.raiseFailed i c = (s.raise i .failed).modRecord i fun r => { r with failureCause := c } := by
  simp [State.raiseFailed, h]

theorem State.raiseFailed_of_not_mayRaise (s : State) (i : Slot) (c : FailureCause)
    (h : mayRaise (s.record i).state .failed = false) : s.raiseFailed i c = s := by
  simp [State.raiseFailed, h]

theorem State.record_raiseFailed_ne (s : State) (i j : Slot) (c : FailureCause) (h : j ≠ i) :
    (s.raiseFailed i c).record j = s.record j := by
  unfold State.raiseFailed
  split
  · rw [State.record_modRecord_ne _ _ _ _ h, s.record_raise_ne _ _ _ h]
  · rfl

theorem State.record_raiseFailed_same (s : State) (i : Slot) (c : FailureCause) :
    (s.raiseFailed i c).record i =
      if mayRaise (s.record i).state .failed = true then
        { s.record i with reasons := reasonAdd (s.record i).reasons .failed, failureCause := c }
      else s.record i := by
  unfold State.raiseFailed
  split
  · next h => simp [s.record_raise_same, h]
  · rfl

@[simp] theorem State.record_returnText (s : State) (i j : Slot) :
    (s.returnText i).record j = s.record j := by
  rw [s.returnText_frame i]; rfl

theorem State.record_storeInbound_ne (s : State) (i j : Slot) (a : Octet) (x : List Octet)
    (h : j ≠ i) : (s.storeInbound i a x).record j = s.record j := by
  have h' : i.val ≠ j.val := fun e => h (Fin.ext e.symm)
  simp [State.storeInbound, State.record, State.modRecord, State.setRecord, h']

theorem State.record_storeInbound_same (s : State) (i : Slot) (a : Octet) (x : List Octet) :
    (s.storeInbound i a x).record i =
      { s.record i with
        inToggle := !(s.record i).inToggle
        receivedCount := (s.record i).receivedCount + 1
        inboundCount := (s.record i).inboundCount + 1 } := by
  simp [State.storeInbound, State.record, State.modRecord, State.setRecord]

theorem State.record_testRetired_ne (s : State) (i j : Slot) (h : j ≠ i) :
    (s.testRetired i).record j = s.record j := by
  unfold State.testRetired
  split
  · exact s.record_raise_ne i j _ h
  · rfl

/-- The RETIRED test changes a record in its reason set alone. -/
theorem State.record_testRetired_same (s : State) (i : Slot) :
    (s.testRetired i).record i =
      { s.record i with reasons := ((s.testRetired i).record i).reasons } := by
  unfold State.testRetired
  split
  · rw [s.record_raise_same]
  · rfl

/-! ### What a record keeps -/

/-- A move that neither enters nor leaves service. -/
def Lifecycle.Near (a b : Lifecycle) : Prop := b = a ∨ (a.isInService = true ∧ b.isInService = true)

theorem Lifecycle.Near.refl (a : Lifecycle) : a.Near a := .inl rfl

theorem Lifecycle.Near.trans {a b c : Lifecycle} (h : a.Near b) (h' : b.Near c) : a.Near c := by
  obtain rfl | ⟨ha, hb⟩ := h
  · exact h'
  · obtain rfl | ⟨_, hc⟩ := h'
    · exact .inr ⟨ha, hb⟩
    · exact .inr ⟨ha, hc⟩

theorem Lifecycle.Near.isInService {a b : Lifecycle} (h : a.Near b) :
    b.isInService = a.isInService := by
  obtain rfl | ⟨ha, hb⟩ := h
  · rfl
  · rw [ha, hb]

theorem Lifecycle.Near.free {a b : Lifecycle} (h : a.Near b) : b = .free ↔ a = .free := by
  obtain rfl | ⟨ha, hb⟩ := h
  · rfl
  · constructor <;> rintro rfl
    · simp [Lifecycle.isInService] at hb
    · simp [Lifecycle.isInService] at ha

theorem Lifecycle.Near.retiring {a b : Lifecycle} (h : a.Near b) :
    b = .retiring ↔ a = .retiring := by
  obtain rfl | ⟨ha, hb⟩ := h
  · rfl
  · constructor <;> rintro rfl
    · simp [Lifecycle.isInService] at hb
    · simp [Lifecycle.isInService] at ha

theorem Lifecycle.exists_of_isInService (a : Lifecycle) (h : a.isInService = true) :
    ∃ st, a = .inService st := by
  cases a with
  | inService st => exact ⟨st, rfl⟩
  | free => cases h
  | held st => cases h
  | retiring => cases h

/-- What the end of an exchange leaves of the record it names: its standing up to a move within service, its address, its
ring count, and its text, unless that is freed. -/
structure Record.Keeps (r r' : Record) : Prop where
  state : r.state.Near r'.state
  address : r'.address = r.address
  ringCount : r'.ringCount = r.ringCount
  outboundText : r'.outboundText = r.outboundText ∨ r'.outboundText = none

theorem Record.Keeps.refl (r : Record) : r.Keeps r := ⟨.refl _, rfl, rfl, .inl rfl⟩

theorem Record.Keeps.trans {r r' r'' : Record} (h : r.Keeps r') (h' : r'.Keeps r'') :
    r.Keeps r'' := by
  refine ⟨h.state.trans h'.state, h'.address.trans h.address, h'.ringCount.trans h.ringCount, ?_⟩
  obtain e | e := h'.outboundText
  · rw [e]; exact h.outboundText
  · exact .inr e

theorem Record.Turns.keeps {r r' : Record} (h : r.Turns r') : r.Keeps r' :=
  ⟨h.state, h.address, h.ringCount, .inl h.outboundText⟩

/-- Operations on one record leave every other record as it was. -/
theorem Touches.record_ne {G : Prop} {i j : Slot} {s t : State} (h : Touches G i s t)
    (hj : j ≠ i) : t.record j = s.record j := by
  induction h with
  | refl => rfl
  | turn f _ _ _ ih => rw [State.record_modRecord_ne _ _ _ _ hj, ih]
  | raise r _ _ _ ih => rw [State.record_raise_ne _ _ _ _ hj, ih]
  | raiseFailed c _ _ ih => rw [State.record_raiseFailed_ne _ _ _ _ hj, ih]
  | freeText _ ih => rw [State.record_freeText_ne _ _ _ hj, ih]
  | returnText _ _ ih => rw [State.record_returnText, ih]
  | store a x _ _ _ ih => rw [State.record_storeInbound_ne _ _ _ _ _ hj, ih]
  | follow o _ ih => exact ih

/-- Operations on one record keep its standing, address, ring count and, unless freed, its text. -/
theorem Touches.keeps {G : Prop} {i : Slot} {s t : State} (h : Touches G i s t) :
    (s.record i).Keeps (t.record i) := by
  induction h with
  | refl => exact .refl _
  | turn f _ ht _ ih => rw [State.record_modRecord_same]; exact ih.trans ht.keeps
  | raise r _ _ _ ih =>
    rw [State.record_raise_same]; exact ih.trans ⟨.refl _, rfl, rfl, .inl rfl⟩
  | raiseFailed c _ _ ih =>
    rw [State.record_raiseFailed_same]
    refine ih.trans ?_
    split
    · exact ⟨.refl _, rfl, rfl, .inl rfl⟩
    · exact .refl _
  | freeText _ ih =>
    rw [State.record_freeText_same]; exact ih.trans ⟨.refl _, rfl, rfl, .inr rfl⟩
  | returnText _ _ ih => rw [State.record_returnText]; exact ih
  | store a x _ _ _ ih =>
    rw [State.record_storeInbound_same]; exact ih.trans ⟨.refl _, rfl, rfl, .inl rfl⟩
  | follow o _ ih => exact ih

/-! ### Each outcome is made of these operations -/

section
variable {G : Prop} {i : Slot} {s t : State}

theorem Touches.trans {u : State} (h : Touches G i s t) (h' : Touches G i t u) :
    Touches G i s u := by
  induction h' with
  | refl => exact h
  | turn f _ ht hb ih => exact .turn f ih ht hb
  | raise r _ hr hf ih => exact .raise r ih hr hf
  | raiseFailed c _ hc ih => exact .raiseFailed c ih hc
  | freeText _ ih => exact .freeText ih
  | returnText _ hs ih => exact .returnText ih hs
  | store a x _ hn hx ih => exact .store a x ih hn hx
  | follow o _ ih => exact .follow o ih

theorem touches_goodStep : Touches G i s (s.goodStep i) := by
  unfold State.goodStep
  split
  · next h =>
    refine .raise _ (.turn _ .refl ?_ fun _ hb => ?_) (by simp) (by simp)
    · exact ⟨.inr ⟨by rw [h]; rfl, rfl⟩, rfl, rfl, rfl, rfl, rfl, rfl⟩
    · exact { hb with missCount := Nat.zero_le _ }
  · exact .turn _ .refl (.of_same _ _ rfl rfl) fun _ hb => { hb with missCount := Nat.zero_le _ }
  all_goals exact .refl

/-- A resync pending flag set is a change of the record's own flags. -/
theorem Touches.setResync (h : Touches G i s t) : Touches G i s (t.setResync i) :=
  .turn _ h (.of_same _ _ rfl rfl) fun _ hb => { hb with }

theorem Touches.failText (c : FailureCause) (h : Touches G i s t) (hc : c ≠ .none) :
    Touches G i s (t.failText i c) :=
  .raiseFailed c (.freeText h) hc

theorem touches_enterLost (hs : (s.record i).state.isInService = true) :
    Touches G i s (s.enterLost i) := by
  have h : Touches G i s
      (s.modRecord i fun r => { r with state := .inService .lost, resyncPending := false }) :=
    .turn _ .refl ⟨.inr ⟨hs, rfl⟩, rfl, rfl, rfl, rfl, rfl, rfl⟩ fun _ hb => { hb with }
  unfold State.enterLost
  simp only
  split
  · exact h.failText .lost (by simp)
  · exact h

theorem countMiss_le (n : Nat) : countMiss n ≤ 15 := Nat.min_le_right _ _

/-- The miss counted in the record (R5, R64). -/
def State.missCounted (s : State) (i : Slot) : State :=
  s.modRecord i fun r => { r with missCount := countMiss r.missCount }

/-- The miss step of a record that is not in service changes nothing (R62). -/
theorem State.missStep_of_not_inService (s : State) (i : Slot)
    (h : (s.record i).state.isInService = false) : s.missStep i = s := by
  unfold State.missStep
  split
  case h_4 st hst => simp [hst, Lifecycle.isInService] at h
  all_goals rfl

/-- The miss step in service by the two thresholds as they stand (R64, R65). -/
theorem State.missStep_of_inService (s : State) (i : Slot) (st : Standing)
    (h : (s.record i).state = .inService st) :
    s.missStep i =
      if st ≠ .lost ∧ s.params.lostThreshold.toNat ≤ countMiss (s.record i).missCount then
        if st = .staged then (s.missCounted i).enterLost i
        else ((s.missCounted i).enterLost i).raise i .lost
      else if st = .active ∧ s.params.suspectThreshold.toNat ≤ countMiss (s.record i).missCount then
        ((s.missCounted i).modRecord i fun r => { r with state := .inService .suspect }).raise i
          .suspect
      else s.missCounted i := by
  have hc : (s.modRecord i fun r => { r with missCount := countMiss (s.record i).missCount }) =
      s.missCounted i := rfl
  simp only [State.missStep, h, hc]
  by_cases hl : s.params.lostThreshold.toNat ≤ countMiss (s.record i).missCount <;>
  by_cases hs : s.params.suspectThreshold.toNat ≤ countMiss (s.record i).missCount <;>
  cases st <;> simp [missStanding, hl, hs]

theorem touches_missStep : Touches G i s (s.missStep i) := by
  have hm : Touches G i s (s.missCounted i) :=
    .turn _ .refl (.of_same _ _ rfl rfl) fun _ hb => { hb with missCount := countMiss_le _ }
  cases hs : (s.record i).state.isInService with
  | false => rw [s.missStep_of_not_inService i hs]; exact .refl
  | true =>
    obtain ⟨st, hst⟩ := (s.record i).state.exists_of_isInService hs
    have hin := hm.keeps.state.isInService.trans hs
    have hl := hm.trans (touches_enterLost hin)
    rw [s.missStep_of_inService i st hst]
    split
    · split
      · exact hl
      · exact .raise _ hl (by simp) (by simp)
    · split
      · refine .raise _ (.turn _ hm ?_ fun _ hb => { hb with }) (by simp) (by simp)
        exact ⟨.inr ⟨hin, rfl⟩, rfl, rfl, rfl, rfl, rfl, rfl⟩
      · exact hm

theorem touches_quietStep : Touches G i s (s.quietStep i) := by
  unfold State.quietStep
  simp only
  split
  · exact .refl
  · next q hq =>
    split
    · next hlt =>
      have h : Touches G i s (s.modRecord i fun x => { x with quietCount := x.quietCount + 1 }) := by
        refine .turn _ .refl (.of_same _ _ rfl rfl) fun _ hb => { hb with quietCount := ?_ }
        simpa [hq] using hlt.2
      split
      · exact .raise _ h (by simp) (by simp)
      · exact h
    · exact .refl

theorem touches_goodNil : Touches G i s (s.goodNil i) :=
  touches_goodStep.trans touches_quietStep

theorem touches_quietReset : Touches G i s (s.quietReset i) := by
  unfold State.quietReset
  split
  · exact .turn _ .refl (.of_same _ _ rfl rfl) fun _ hb => { hb with quietCount := Nat.zero_le _ }
  · exact .refl

theorem Touches.contextNames (h : Touches G i s t) (j : Slot) :
    t.contextNames j = s.contextNames j := by
  obtain ⟨_, _, _, _, _, _, _, rfl⟩ := h.frame; rfl

/-- A text taken is stored by no operation before it. -/
theorem inbound_goodStep_quietReset : ((s.goodStep i).quietReset i).inbound = s.inbound := by
  have hg : (s.goodStep i).inbound = s.inbound := by
    unfold State.goodStep
    split
    · rw [State.raise_frame]; rfl
    all_goals rfl
  rw [← hg]
  unfold State.quietReset
  split <;> rfl

theorem touches_goodText (a : Octet) (h q : Bool) (x : List Octet) (hn : s.contextNames i = true)
    (hx : G → h = false →
      s.inbound.length ≤ 1 ∧ isIndividualAddress a = true ∧ 1 ≤ x.length ∧ x.length ≤ 128) :
    Touches G i s (s.goodText i a h q x) := by
  have ht : Touches G i s ((s.goodStep i).quietReset i) := touches_goodStep.trans touches_quietReset
  unfold State.goodText
  split
  · exact .refl
  · simp only
    split
    · exact .raise _ ht (by simp) (by simp)
    · next hh =>
      split
      · refine .store _ _ ht (by rw [ht.contextNames, hn]) fun g => ?_
        rw [inbound_goodStep_quietReset]
        exact hx g (by simpa using hh)
      · exact ht

theorem Touches.setFollowOn (h : Touches G i s t) : Touches G i s (t.setFollowOn i) := by
  unfold State.setFollowOn
  split
  · exact .follow _ h
  · exact h

/-- What a retry needs in order to keep the record's bounds: a legal Retry Limit and a text to be retried. -/
def State.Retriable (s : State) (i : Slot) : Prop :=
  s.params.retryLimit.toNat ≤ 15 ∧ (s.record i).outboundText ≠ none

theorem freeText_countRetry (i : Slot) : (s.countRetry i).freeText i = s.freeText i := by
  have hr : ((s.countRetry i).record i).outboundText = (s.record i).outboundText := by
    simp [State.countRetry]
  cases h : (s.record i).outboundText with
  | none =>
    rw [State.freeText_of_none _ _ (hr.trans h), State.freeText_of_none _ _ h]
    simp [State.countRetry]
  | some b =>
    rw [State.freeText_of_some _ _ b (hr.trans h), State.freeText_of_some _ _ b h]
    simp [State.countRetry]

theorem failText_countRetry (i : Slot) (c : FailureCause) :
    (s.countRetry i).failText i c = s.failText i c := by
  simp only [State.failText, freeText_countRetry]

theorem retryText_eq (i : Slot) :
    s.retryText i =
      if (s.record i).cancelRequested = true then (s.failText i .cancelled).setResync i
      else if s.params.retryLimit.toNat ≤ (s.record i).retryCount + 1 then
        (s.failText i .retries).setResync i
      else (s.countRetry i).returnText i := by
  simp only [State.retryText, failText_countRetry]
  simp [State.countRetry]

theorem refusedText_eq (i : Slot) :
    s.refusedText i =
      if (s.record i).state = .retiring then s.freeText i
      else if ((s.goodStep i).record i).cancelRequested = true then
        (s.goodStep i).failText i .cancelled
      else if (s.goodStep i).params.retryLimit.toNat ≤ ((s.goodStep i).record i).retryCount + 1 then
        (s.goodStep i).failText i .retries
      else ((s.goodStep i).countRetry i).returnText i := by
  simp only [State.refusedText, failText_countRetry]
  simp [State.countRetry]

/-- A text retried: the retry is counted and the text returned. -/
theorem touches_returnText_countRetry (hr : G → s.Retriable i)
    (hl : ¬ s.params.retryLimit.toNat ≤ (s.record i).retryCount + 1)
    (hs : (s.record i).state ≠ .retiring) :
    Touches G i s ((s.countRetry i).returnText i) := by
  refine .returnText (.turn _ .refl (.of_same _ _ rfl rfl) fun g hb => ?_)
    (by simpa [State.countRetry] using hs)
  obtain ⟨hlim, htext⟩ := hr g
  refine { hb with retryCount := ?_, noText := fun h => absurd h htext }
  show (s.record i).retryCount + 1 ≤ 15
  omega

theorem touches_retryText (hr : G → s.Retriable i) (hs : (s.record i).state ≠ .retiring) :
    Touches G i s (s.retryText i) := by
  rw [retryText_eq]
  split
  · exact (Touches.refl.failText .cancelled (by simp)).setResync
  · split
    · exact (Touches.refl.failText .retries (by simp)).setResync
    · next hl => exact touches_returnText_countRetry hr hl hs

theorem Touches.params (h : Touches G i s t) : t.params = s.params := by
  obtain ⟨_, _, _, _, _, _, _, rfl⟩ := h.frame; rfl

theorem outboundText_goodStep : ((s.goodStep i).record i).outboundText = (s.record i).outboundText := by
  unfold State.goodStep
  split <;> simp [State.record_raise_same]

theorem State.Retriable.goodStep (h : s.Retriable i) : (s.goodStep i).Retriable i := by
  have hp := (touches_goodStep (G := False) (i := i) (s := s)).params
  exact ⟨by rw [hp]; exact h.1, by rw [outboundText_goodStep]; exact h.2⟩

theorem touches_refusedText (hr : G → s.Retriable i) : Touches G i s (s.refusedText i) := by
  have hg : Touches G i s (s.goodStep i) := touches_goodStep
  rw [refusedText_eq]
  split
  · exact .freeText .refl
  · next hs =>
    have hs' : ((s.goodStep i).record i).state ≠ .retiring :=
      fun h => hs (hg.keeps.state.retiring.mp h)
    split
    · exact hg.failText .cancelled (by simp)
    · split
      · exact hg.failText .retries (by simp)
      · next hl =>
        exact hg.trans (touches_returnText_countRetry (fun g => (hr g).goodStep) hl hs')

theorem touches_goodNak (hr : G → s.Retriable i) : Touches G i s (s.goodNak i) :=
  (touches_refusedText hr).setFollowOn

theorem touches_deliverText : Touches G i s (s.deliverText i) :=
  .raise _ (.freeText (.turn _ touches_goodStep (.of_same _ _ rfl rfl) fun _ hb => { hb with }))
    (by simp) (by simp)

theorem touches_goodAck (a : Bool) (hr : G → s.Retriable i) : Touches G i s (s.goodAck i a) := by
  unfold State.goodAck
  split
  · exact touches_goodNak hr
  · exact touches_deliverText.setFollowOn

theorem buffers_raise (r : Reason) : (s.raise i r).buffers = s.buffers := by
  rw [State.raise_frame]

theorem state_failText (c : FailureCause) :
    ((s.failText i c).record i).state = (s.record i).state := by
  unfold State.failText
  rw [State.record_raiseFailed_same, State.record_freeText_same]
  split <;> rfl

theorem state_enterLost : ((s.enterLost i).record i).state = .inService .lost := by
  unfold State.enterLost
  simp only
  split
  · rw [state_failText, State.record_modRecord_same]
  · rw [State.record_modRecord_same]

/-- A miss step makes a record LOST by its entry into LOST, and otherwise leaves its text alone (R65). -/
theorem missStep_lost_or_text :
    (((s.missStep i).record i).state = .inService .lost ∧ (s.record i).state ≠ .inService .lost ∧
      (s.missStep i).buffers = ((s.missCounted i).enterLost i).buffers) ∨
    (¬ (((s.missStep i).record i).state = .inService .lost ∧
        (s.record i).state ≠ .inService .lost) ∧
      ((s.missStep i).record i).outboundText = (s.record i).outboundText) := by
  cases hs : (s.record i).state.isInService with
  | false =>
    rw [s.missStep_of_not_inService i hs]
    exact .inr ⟨fun h => h.2 h.1, rfl⟩
  | true =>
    obtain ⟨st, hst⟩ := (s.record i).state.exists_of_isInService hs
    rw [s.missStep_of_inService i st hst]
    split
    · next h =>
      refine .inl ?_
      split
      · exact ⟨state_enterLost, by simpa [hst] using h.1, rfl⟩
      · exact ⟨by rw [State.record_raise_same]; exact state_enterLost, by simpa [hst] using h.1,
          buffers_raise _⟩
    · refine .inr ?_
      split
      · simp [State.record_raise_same, State.missCounted]
      · simp [State.missCounted, hst]

theorem touches_missText (hr : G → s.Retriable i) : Touches G i s (s.missText i) := by
  have hm : Touches G i s (s.missStep i) := touches_missStep
  unfold State.missText
  split
  · exact .freeText .refl
  · next hs =>
    simp only
    split
    · exact hm
    · next hl =>
      refine hm.trans (touches_retryText (fun g => ?_) fun h => hs (hm.keeps.state.retiring.mp h))
      obtain ⟨h, h', _⟩ | ⟨_, ht⟩ := missStep_lost_or_text (s := s) (i := i)
      · exact absurd ⟨h, h'⟩ hl
      · exact ⟨by rw [hm.params]; exact (hr g).1, by rw [ht]; exact (hr g).2⟩

theorem touches_setLastStatus (v : Octet) : Touches G i s (s.setLastStatus i v) := by
  have h : Touches G i s (s.modRecord i fun r => { r with lastStatus := some v }) :=
    .turn _ .refl (.of_same _ _ rfl rfl) fun _ hb => { hb with }
  unfold State.setLastStatus
  simp only
  split
  · exact h
  · exact .raise _ h (by simp) (by simp)

theorem touches_goodStatus (v : Octet) : Touches G i s (s.goodStatus i v) := by
  have h : Touches G i s ((((s.goodStep i).modRecord i fun r =>
      { r with outToggle := false, inToggle := false, resyncPending := false }).setLastStatus i v)) :=
    (Touches.turn _ touches_goodStep (.of_same _ _ rfl rfl) fun _ hb => { hb with }).trans
      (touches_setLastStatus v)
  have hs : (s.record i).state.isInService = true → Touches G i s
      ((((s.goodStep i).modRecord i fun r =>
        { r with outToggle := false, inToggle := false, resyncPending := false }).setLastStatus i
          v).modRecord i fun r => { r with state := .inService .active }) := fun hin =>
    .turn _ h ⟨.inr ⟨h.keeps.state.isInService.trans hin, rfl⟩, rfl, rfl, rfl, rfl, rfl, rfl⟩
      fun _ hb => { hb with }
  unfold State.goodStatus
  simp only
  split
  · next e => exact .raise _ (hs (by rw [e]; rfl)) (by simp) (by simp)
  · next e => exact .raise _ (hs (by rw [e]; rfl)) (by simp) (by simp)
  all_goals exact h

/-- A cancel requested fails the text, with resync pending where it had been retried (R75). -/
theorem Touches.cancelRequested (h : Touches G i s t) :
    Touches G i s
      (if (t.record i).cancelRequested then
        (if (t.record i).retryCount = 0 then t else t.setResync i).failText i .cancelled
      else t) := by
  split
  · refine Touches.failText .cancelled ?_ (by simp)
    split
    · exact h
    · exact h.setResync
  · exact h

theorem touches_abandonText (p : Point) : Touches G i s (s.abandonText i p) := by
  unfold State.abandonText
  split
  · exact .freeText .refl
  · next hs =>
    have ht : Touches G i s (s.returnText i) := .returnText .refl hs
    have hu : Touches G i s
        (if p = .whollySent then (s.returnText i).setResync i else s.returnText i) := by
      split
      · exact ht.setResync
      · exact ht
    exact hu.cancelRequested

end

end Sys2Proof.Machine
end

section
namespace Sys2Proof.Machine

/-! ### Every outcome of an exchange with a slot (R60, R61, R75) -/

section
variable {G : Prop} {i : Slot} {s t : State}

theorem touches_applyMiss (x : Exchange) (hi : x.slot? = some i)
    (hr : G → ∀ b, x = .text i b → s.Retriable i) : Touches G i s (s.applyMiss x) := by
  cases x with
  | poll j => cases hi; exact touches_missStep
  | text j b => cases hi; exact touches_missText fun g => hr g b rfl
  | sync j => cases hi; exact touches_missStep
  | group b => cases hi

theorem State.Retriable.raise (r : Reason) (h : s.Retriable i) : (s.raise i r).Retriable i := by
  have hp : (s.raise i r).params = s.params := by rw [State.raise_frame]
  refine ⟨by rw [hp]; exact h.1, ?_⟩
  rw [State.record_raise_same]
  exact h.2

theorem touches_unexpectedKind (x : Exchange) (hi : x.slot? = some i)
    (hr : G → ∀ b, x = .text i b → s.Retriable i) : Touches G i s (s.unexpectedKind x) := by
  simp only [State.unexpectedKind, hi]
  exact (Touches.raise _ .refl (by simp) (by simp)).trans
    (touches_applyMiss x hi fun g b hb => (hr g b hb).raise _)

theorem touches_applyGood (c : Context) (k a ctl : Octet) (x : List Octet)
    (hc : s.context = some c) (hi : c.exchange.slot? = some i)
    (hr : G → ∀ b, c.exchange = .text i b → s.Retriable i)
    (hx : G → k = kindText → c.hSent = false → c.exchange = .poll i →
      s.inbound.length ≤ 1 ∧ isIndividualAddress c.address = true ∧ 1 ≤ x.length ∧ x.length ≤ 128) :
    Touches G i s (s.applyGood c k a ctl x) := by
  have hn : s.contextNames i = true := by simp [State.contextNames, hc, hi]
  unfold State.applyGood
  split
  · exact touches_applyMiss _ hi hr
  · split
    · next j hj =>
      obtain rfl : j = i := by simpa [hj, Exchange.slot?] using hi
      split
      · exact touches_goodNil
      · split
        · next hk => exact touches_goodText _ _ _ _ hn fun g hh => hx g hk hh hj
        · exact touches_unexpectedKind _ hi hr
    · next j b hj =>
      obtain rfl : j = i := by simpa [hj, Exchange.slot?] using hi
      split
      · exact touches_goodAck _ fun g => hr g b hj
      · split
        · exact touches_goodNak fun g => hr g b hj
        · exact touches_unexpectedKind _ hi hr
    · next j hj =>
      obtain rfl : j = i := by simpa [hj, Exchange.slot?] using hi
      split
      · exact touches_goodStatus _
      · exact touches_unexpectedKind _ hi hr
    · exact .refl

theorem touches_applyAbandoned (c : Context) (hi : c.exchange.slot? = some i) :
    Touches G i s (s.applyAbandoned c) := by
  unfold State.applyAbandoned
  split
  · next j b hj =>
    obtain rfl : j = i := by simpa [hj, Exchange.slot?] using hi
    exact touches_abandonText _
  · next j hj =>
    obtain rfl : j = i := by simpa [hj, Exchange.slot?] using hi
    split
    · exact .freeText .refl
    · exact .refl
  · next j hj =>
    obtain rfl : j = i := by simpa [hj, Exchange.slot?] using hi
    split
    · exact .freeText .refl
    · exact .refl
  · exact .refl

/-! ### The buffers under these operations (R79) -/

/-- The buffer is not IN FLIGHT. -/
def State.landed (s : State) (b : BufferNo) : Prop := s.buffers[b.val].isInFlight = false

theorem buffers_raiseFailed (c : FailureCause) : (s.raiseFailed i c).buffers = s.buffers := by
  unfold State.raiseFailed
  split
  · rw [State.modRecord_buffers, buffers_raise]
  · rfl

/-- Freeing a text frees the buffer that the record names, and that one alone. -/
theorem buffers_freeText (b : BufferNo) :
    (s.freeText i).buffers[b.val] =
      if (s.record i).outboundText = some b then .free else s.buffers[b.val] := by
  cases h : (s.record i).outboundText with
  | none => rw [State.freeText_of_none _ _ h]; simp
  | some b' =>
    rw [State.freeText_of_some _ _ b' h]
    simp only [Vector.getElem_set, Option.some.injEq, Fin.ext_iff]

/-- A buffer as a return of its text leaves it: FILLED where it was IN FLIGHT (R62). -/
def OutBuffer.returned : OutBuffer → OutBuffer
  | .inFlight o x => .filled o x
  | .free => .free
  | .filled o x => .filled o x
  | .group a x n => .group a x n

/-- Returning a text returns the buffer that the record names, and that one alone. -/
theorem buffers_returnText (b : BufferNo) :
    (s.returnText i).buffers[b.val] =
      if (s.record i).outboundText = some b then s.buffers[b.val].returned
      else s.buffers[b.val] := by
  unfold State.returnText
  split
  · next h => simp [h]
  · next b' h =>
    rw [h]
    split
    · next o x hx =>
      simp only [Vector.getElem_set, Option.some.injEq, Fin.ext_iff]
      split
      · next e =>
        obtain rfl : b' = b := Fin.ext e
        rw [hx]; rfl
      · rfl
    all_goals
      next hx =>
      split
      · next e => obtain rfl : b' = b := by simpa using e
                  rw [hx]; rfl
      · rfl

theorem OutBuffer.isInFlight_returned (x : OutBuffer) : x.returned.isInFlight = false := by
  cases x <;> rfl

/-- What operations on one record do to a buffer: nothing, or, where the record named it, it is freed or returned. -/
theorem Touches.buffer (h : Touches G i s t) (b : BufferNo) :
    t.buffers[b.val] = s.buffers[b.val] ∨
      ((s.record i).outboundText = some b ∧
        (t.buffers[b.val] = .free ∨ t.buffers[b.val] = s.buffers[b.val].returned)) := by
  induction h with
  | refl => exact .inl rfl
  | turn f _ _ _ ih => exact ih
  | raise r _ _ _ ih => rw [buffers_raise]; exact ih
  | raiseFailed c _ _ ih => rw [buffers_raiseFailed]; exact ih
  | @freeText t h ih =>
    rw [buffers_freeText]
    split
    · next e =>
      obtain e' | e' := h.keeps.outboundText
      · exact .inr ⟨e' ▸ e, .inl rfl⟩
      · rw [e'] at e; cases e
    · exact ih
  | @returnText t h _ ih =>
    rw [buffers_returnText]
    split
    · next e =>
      obtain e' | e' := h.keeps.outboundText
      · refine .inr ⟨e' ▸ e, ?_⟩
        obtain ih | ⟨_, ih | ih⟩ := ih
        · exact .inr (by rw [ih])
        · exact .inl (by rw [ih]; rfl)
        · exact .inr (by rw [ih]; cases s.buffers[b.val] <;> rfl)
      · rw [e'] at e; cases e
    · exact ih
  | store a x _ _ _ ih => exact ih
  | follow o _ ih => exact ih

theorem Touches.landed {b : BufferNo} (h : Touches G i s t) (hb : s.landed b) : t.landed b := by
  unfold State.landed at *
  obtain e | ⟨_, e | e⟩ := h.buffer b
  · rw [e]; exact hb
  · rw [e]; rfl
  · rw [e]; exact OutBuffer.isInFlight_returned _

theorem landed_freeText {b : BufferNo} (h : (s.record i).outboundText = some b) :
    (s.freeText i).landed b := by
  unfold State.landed
  rw [buffers_freeText, if_pos h]; rfl

theorem landed_returnText {b : BufferNo} (h : (s.record i).outboundText = some b) :
    (s.returnText i).landed b := by
  unfold State.landed
  rw [buffers_returnText, if_pos h]; exact OutBuffer.isInFlight_returned _

theorem landed_failText {b : BufferNo} (c : FailureCause)
    (h : (s.record i).outboundText = some b) : (s.failText i c).landed b := by
  unfold State.failText State.landed
  rw [buffers_raiseFailed]
  exact landed_freeText h

theorem landed_retried {b : BufferNo} (h : (s.record i).outboundText = some b) :
    ((s.countRetry i).returnText i).landed b :=
  landed_returnText (by simpa [State.countRetry] using h)

theorem landed_retryText {b : BufferNo} (h : (s.record i).outboundText = some b) :
    (s.retryText i).landed b := by
  rw [retryText_eq]
  split
  · exact landed_failText (s := s) _ h
  · split
    · exact landed_failText (s := s) _ h
    · exact landed_retried h

theorem landed_refusedText {b : BufferNo} (h : (s.record i).outboundText = some b) :
    (s.refusedText i).landed b := by
  have hg : ((s.goodStep i).record i).outboundText = some b := outboundText_goodStep.trans h
  rw [refusedText_eq]
  split
  · exact landed_freeText h
  · split
    · exact landed_failText _ hg
    · split
      · exact landed_failText _ hg
      · exact landed_retried hg

theorem landed_setFollowOn {b : BufferNo} (h : s.landed b) : (s.setFollowOn i).landed b :=
  (Touches.setFollowOn (G := False) .refl).landed h

theorem landed_deliverText {b : BufferNo} (h : (s.record i).outboundText = some b) :
    (s.deliverText i).landed b := by
  unfold State.deliverText State.landed
  rw [buffers_raise]
  refine landed_freeText ?_
  rw [State.record_modRecord_same]
  exact outboundText_goodStep.trans h

theorem landed_goodAck {b : BufferNo} (a : Bool) (h : (s.record i).outboundText = some b) :
    (s.goodAck i a).landed b := by
  unfold State.goodAck
  split
  · exact landed_setFollowOn (landed_refusedText h)
  · exact landed_setFollowOn (landed_deliverText h)

/-- The entry into LOST frees the text that the record names. -/
theorem landed_enterLost {b : BufferNo} (h : (s.record i).outboundText = some b) :
    (s.enterLost i).landed b := by
  unfold State.enterLost
  simp only [h, Option.isSome_some, if_true]
  exact landed_failText _ (by simpa using h)

theorem landed_missText {b : BufferNo} (h : (s.record i).outboundText = some b) :
    (s.missText i).landed b := by
  unfold State.missText
  split
  · exact landed_freeText h
  · simp only
    obtain ⟨hl, hs, hb⟩ | ⟨hl, ht⟩ := missStep_lost_or_text (s := s) (i := i)
    · rw [if_pos ⟨hl, hs⟩]
      unfold State.landed
      rw [hb]
      exact landed_enterLost (by simpa [State.missCounted] using h)
    · rw [if_neg hl]
      exact landed_retryText (ht.trans h)

theorem landed_abandonText {b : BufferNo} (p : Point) (h : (s.record i).outboundText = some b) :
    (s.abandonText i p).landed b := by
  have hu : (if p = .whollySent then (s.returnText i).setResync i else s.returnText i).landed b := by
    split
    · exact landed_returnText (s := s) h
    · exact landed_returnText h
  unfold State.abandonText
  split
  · exact landed_freeText h
  · exact (Touches.cancelRequested (G := False) (i := i) .refl).landed hu

theorem landed_applyMiss {b : BufferNo} (h : (s.record i).outboundText = some b) :
    (s.applyMiss (.text i b)).landed b := landed_missText h

theorem landed_unexpectedKind {b : BufferNo} (h : (s.record i).outboundText = some b) :
    (s.unexpectedKind (.text i b)).landed b :=
  landed_missText (by rw [State.record_raise_same]; exact h)

theorem landed_applyGood {b : BufferNo} (c : Context) (k a ctl : Octet) (x : List Octet)
    (hc : c.exchange = .text i b) (h : (s.record i).outboundText = some b) :
    (s.applyGood c k a ctl x).landed b := by
  simp only [State.applyGood, hc]
  split
  · exact landed_missText h
  · split
    · exact landed_goodAck _ h
    · split
      · exact landed_setFollowOn (landed_refusedText h)
      · exact landed_unexpectedKind h

theorem landed_applyAbandoned {b : BufferNo} (c : Context) (hc : c.exchange = .text i b)
    (h : (s.record i).outboundText = some b) : (s.applyAbandoned c).landed b := by
  simp only [State.applyAbandoned, hc]
  exact landed_abandonText _ h

end

end Sys2Proof.Machine
end

section
namespace Sys2Proof.Machine

/-! ### The ledger: what a station, a text and an exchange leave behind -/

/-- The fields in which the records, the lists, the texts and the exchange in progress are kept. -/
structure Ledger where
  records : Vector Record Config.slots
  ring : List Slot
  ringCursor : Nat
  urgent : List Slot
  attention : List Slot
  context : Option Context
  inbound : List InboundText
  inboundCursor : Nat
  buffers : Vector OutBuffer Config.outboundBuffers
  groupQueue : List BufferNo

def State.ledger (s : State) : Ledger :=
  { records := s.records, ring := s.ring, ringCursor := s.ringCursor, urgent := s.urgent
    attention := s.attention, context := s.context, inbound := s.inbound
    inboundCursor := s.inboundCursor, buffers := s.buffers, groupQueue := s.groupQueue }

/-- The part of the invariant that the ledger keeps. -/
structure State.LedgerWf (s : State) : Prop where
  free : s.FreeWf
  retired : s.RetiredWf
  records : s.RecordWf
  ring : s.RingWf
  urgent : s.UrgentWf
  attention : s.AttentionWf
  inbound : s.InboundWf
  texts : s.TextWf
  addresses : s.AddressWf

/-- What an act on the ledger may count on beside the ledger itself. -/
structure State.BaseWf (s : State) : Prop where
  ledger : s.LedgerWf
  params : s.params.Legal
  receiver : s.receiver.Wf (s.engine == .testing)
  context : s.ContextWf
  staging : s.staging.length ≤ 128

/-- What the state `s` leaves to its sources at a selection: the follow-on dropped, entries of the urgent list taken off
its head, the probe pass moved on or ended, the ring cursor on an entry (R44 to R48). -/
def Passes (s t : State) : Prop :=
  ∃ (fo : Option Slot) (u : List Slot) (pp : ProbePass) (pc rc : Nat),
    t = { s with followOn := fo, urgent := u, probePass := pp, probeCursor := pc, ringCursor := rc } ∧
    (fo = none ∨ fo = s.followOn) ∧ u <:+ s.urgent ∧
    ((pp = s.probePass ∧ pc = s.probeCursor) ∨ (pp = .none ∧ pc = 0) ∨
      (s.probePass ≠ .none ∧ pp = .inProgress ∧ pc ≤ 40)) ∧
    (rc = s.ringCursor ∨ rc < s.ring.length)

/-- An exchange that a source may offer: one with a slot in service, and a TEXT only of its FILLED text, or the GROUP
exchange of the queue's head (R45 to R48, R54). -/
def State.Startable (s : State) (x : Exchange) : Prop :=
  (∀ i, x.slot? = some i → (s.record i).state.isInService = true) ∧
  (∀ i b, x = .text i b → (s.record i).outboundText = some b ∧ s.textFilled i = true) ∧
  (∀ b, x = .group b → s.groupQueue.head? = some b)

/-- The acts on the ledger that leave every record that is not FREE so: one for each way in which a host command, a
selection or the end of an exchange changes it. -/
inductive Act (s : State) : State → Prop
  | idle : Act s s
  /-- The exchange's block has gone out (R120). -/
  | whollySent :
    Act s { s with context := s.context.map fun c => { c with point := .whollySent } }
  /-- A record's own fields are changed by a command (R16 to R18, R73, R76). -/
  | turned (i : Slot) (f : Record → Record) (hs : (s.record i).state ≠ .free)
    (ht : (f (s.record i)).state = (s.record i).state) (hf : (s.record i).Turns (f (s.record i)))
    (hb : (s.record i).Bounded → (f (s.record i)).Bounded) : Act s (s.modRecord i f)
  /-- MODIFY STATION field ADDRESS (R15). -/
  | readdressed (i : Slot) (v : Octet) (held : Bool) (hs : (s.record i).state ≠ .free)
    (hv : isIndividualAddress v = true) (ho : s.addressHeldByOther i v = false) :
    Act s (s.modRecord i fun r => { r with address := v, resyncPending := r.resyncPending || held })
  /-- CANCEL TEXT of a text that is not IN FLIGHT (R86). -/
  | cancelled (i : Slot) (hs : (s.record i).state ≠ .free) (hf : s.textInFlight i = false) :
    Act s (s.cancelFilled i)
  /-- ADMIT STATION (R12). -/
  | entered (i : Slot) (a g q : Octet) (ha : isIndividualAddress a = true)
    (hg : isGroupArgument g = true) (ho : s.slotOfAddress a = none)
    (hi : s.lowestFreeSlot = some i) : Act s ((s.setRecord i (admittedRecord a g q)).appendUrgent i)
  /-- HOLD STATION (R19). -/
  | held (i : Slot) (st : Standing) (hs : (s.record i).state = .inService st) :
    Act s ((s.modRecord i fun r => { r with state := .held st }).removeUrgent i)
  /-- RELEASE STATION to ACTIVE (R20). -/
  | releasedActive (i : Slot) (st : Standing) (hs : (s.record i).state = .held st) :
    Act s (s.modRecord i fun r =>
      { r with state := .inService .active, missCount := 0, resyncPending := true })
  /-- RELEASE STATION to LOST (R20). -/
  | releasedLost (i : Slot) (st : Standing) (hs : (s.record i).state = .held st) :
    Act s (s.modRecord i fun r => { r with state := .inService .lost })
  /-- RELEASE STATION to STAGED (R20, R35). -/
  | releasedStaged (i : Slot) (st : Standing) (hs : (s.record i).state = .held st) :
    Act s ((s.modRecord i fun r => { r with state := .inService .staged }).appendUrgent i)
  /-- RETIRE STATION (R21). -/
  | retired (i : Slot) (hs : (s.record i).state.isEnlisted = true) : Act s (s.retire i)
  /-- RING INSERT (R29). -/
  | ringInserted (i : Slot) (p : Nat) (hs : (s.record i).state.isEnlisted = true)
    (hp : p ≤ s.ring.length) (hl : s.ring.length < 64) (hc : (s.record i).ringCount < 4) :
    Act s { s.modRecord i fun r => { r with ringCount := r.ringCount + 1 } with
      ring := s.ring.take p ++ i :: s.ring.drop p
      ringCursor := cursorAfterInsert s.ring.length p s.ringCursor }
  /-- RING REMOVE (R30). -/
  | ringRemoved (i : Slot) (p : Nat) (hp : s.ring[p]? = some i) :
    Act s { s.modRecord i fun r => { r with ringCount := r.ringCount - 1 } with
      ring := (removeEntry (s.ring, s.ringCursor) p).1
      ringCursor := (removeEntry (s.ring, s.ringCursor) p).2 }
  /-- POLL NOW (R36). -/
  | pollQueued (i : Slot) (hs : (s.record i).state.isInService = true) (hi : i ∉ s.urgent)
    (hl : s.urgent.length < 4) : Act s { s with urgent := s.urgent ++ [i] }
  /-- QUEUE TEXT (R82). -/
  | textQueued (i : Slot) (b : BufferNo) (hs : (s.record i).state.isEnlisted = true)
    (ht : (s.record i).outboundText = none) (hb : s.lowestFreeBuffer = some b)
    (hx : s.staging ≠ []) :
    Act s ((s.modRecord i fun r =>
      { r with outboundText := some b, retryCount := 0, cancelRequested := false }).fillBuffer b
        (.filled i s.staging))
  /-- QUEUE GROUP TEXT (R84). -/
  | groupQueued (a : Octet) (b : BufferNo) (ha : isGroupAddress a = true)
    (hb : s.lowestFreeBuffer = some b) (hx : s.staging ≠ []) :
    Act s { s.fillBuffer b (.group a s.staging s.params.groupRepeat.toNat) with
      groupQueue := s.groupQueue ++ [b] }
  /-- The inbound read cursor moved within the head text (R91, R92). -/
  | cursorMoved (n : Nat)
    (hn : s.inboundCursor ≤ (s.inbound.head?.map (·.text.length)).getD 0 →
      n ≤ (s.inbound.head?.map (·.text.length)).getD 0) : Act s { s with inboundCursor := n }
  /-- RELEASE INBOUND (R93). -/
  | inboundReleased (x : InboundText) (rest : List InboundText) (h : s.inbound = x :: rest) :
    Act s ((s.dropInbound x rest).testRetired x.slot)
  /-- A selection that begins no exchange (R44). -/
  | passed {t : State} (h : Passes s t) : Act s t
  /-- A selection that begins the exchange `x` (R44, R51). -/
  | began {t : State} (x : Exchange) (h : Passes s t) (he : s.engine = .ready)
    (hx : s.Startable x) : Act s (t.beginExchange x)
  /-- The end of an exchange with a slot (R52, R62). -/
  | ended {u : State} (c : Context) (i : Slot) (hc : s.context = some c)
    (hi : c.exchange.slot? = some i) (h : Touches s.BaseWf i s u)
    (hf : s.BaseWf → ∀ b, c.exchange = .text i b → u.landed b) :
    Act s (u.endContext c.exchange)
  /-- The end of a GROUP exchange otherwise than SENT (R52, R75). -/
  | dropped (c : Context) (b : BufferNo) (hc : s.context = some c) (hb : c.exchange = .group b) :
    Act s { s with context := none }
  /-- The end of a GROUP exchange SENT (R52, R74). -/
  | sent (c : Context) (b : BufferNo) (hc : s.context = some c) (hb : c.exchange = .group b) :
    Act s { s.applySent b with context := none }

end Sys2Proof.Machine
end

section
namespace Sys2Proof.Machine

/-! ### Every event is such an act, or none -/

/-- Two states that agree in what an act may count on. -/
def SameBase (s t : State) : Prop :=
  t.ledger = s.ledger ∧ t.params = s.params ∧ t.receiver = s.receiver ∧ t.engine = s.engine ∧
    t.staging = s.staging

/-- `t` holds the ledger that one act makes of that of `s`. -/
def Reaches (s t : State) : Prop := ∃ r u, SameBase s r ∧ Act r u ∧ t.ledger = u.ledger

section
variable {s t : State}

theorem SameBase.refl (s : State) : SameBase s s := ⟨rfl, rfl, rfl, rfl, rfl⟩

theorem Reaches.of_ledger (h : t.ledger = s.ledger) : Reaches s t := ⟨s, s, .refl s, .idle, h⟩

theorem Reaches.of_act {u : State} (h : Act s u) (ht : t.ledger = u.ledger) : Reaches s t :=
  ⟨s, u, .refl s, h, ht⟩

theorem Act.reaches (h : Act s t) : Reaches s t := ⟨s, t, .refl s, h, rfl⟩

theorem Reaches.congr {u : State} (h : Reaches s t) (hu : u.ledger = t.ledger) : Reaches s u := by
  obtain ⟨r, v, hr, hv, e⟩ := h
  exact ⟨r, v, hr, hv, hu.trans e⟩

/-- The completion of a command leaves the state alone, answers ARGUMENTS, or applies the command's own rule to a state in
which it is in hand with the number of arguments it requires (R171). -/
theorem State.complete_cases (s : State) (n : CommandName) (body : List Octet → State → Completion) :
    s.complete n body = s ∨
    (∃ c, s.command = some c ∧ c.code = n.row.code ∧
      s.complete n body = s.finish n.row.length .arguments []) ∨
    ∃ args, s.inHand n.row.code args ∧ args.length = n.row.args ∧
      s.complete n body =
        (body args s).state.finish n.row.length (body args s).code (body args s).data := by
  unfold State.complete
  split
  · exact .inl rfl
  · next c hc =>
    split
    · next hcode =>
      split
      · exact .inr (.inl ⟨c, hc, hcode, rfl⟩)
      · next hok =>
        obtain ⟨ho, ha⟩ := not_or.mp hok
        refine .inr (.inr ⟨c.args, ?_, not_not.mp ha, rfl⟩)
        rw [State.inHand, hc, ← hcode, ← Bool.eq_false_iff.mpr ho]
    · exact .inl rfl

theorem reaches_complete (n : CommandName) (body : List Octet → State → Completion)
    (h : ∀ args, Reaches s (body args s).state) : Reaches s (s.complete n body) := by
  obtain e | ⟨_, _, _, e⟩ | ⟨args, _, _, e⟩ := s.complete_cases n body
  · rw [e]; exact .of_ledger rfl
  · rw [e]; exact .of_ledger rfl
  · rw [e]; exact (h args).congr rfl

theorem reaches_withSlot (o : Octet) (k : Slot → Completion) (h : ∀ i, Reaches s (k i).state) :
    Reaches s (withSlot o s k).state := by
  unfold withSlot
  split
  · exact h _
  · exact .of_ledger rfl

/-! ### Host commands -/

theorem reaches_admitStation (args : List Octet) : Reaches s (admitStation args s).state := by
  simp only [admitStation]
  split
  · exact .of_ledger rfl
  · next h =>
    obtain ⟨ha, hg⟩ := not_or.mp h
    split
    · exact .of_ledger rfl
    · next ho =>
      split
      · exact .of_ledger rfl
      · next i hi =>
        exact (Act.entered i _ _ _ (by simpa using ha) (by simpa using hg) (by simpa using ho)
          hi).reaches

theorem reaches_modifyStation (rule : Slot → Octet → State → Completion) (args : List Octet)
    (h : ∀ i v, (s.record i).state.isEnlisted = true → Reaches s (rule i v s).state) :
    Reaches s (modifyStation rule args s).state := by
  refine reaches_withSlot _ _ fun i => ?_
  split
  · exact .of_ledger rfl
  · split
    · exact .of_ledger rfl
    · exact .of_ledger rfl
    · next e => exact h i _ (by rw [e]; rfl)
    · next e => exact h i _ (by rw [e]; rfl)

theorem reaches_completeModify (f : Octet) (rule : Slot → Octet → State → Completion)
    (h : ∀ i v, (s.record i).state.isEnlisted = true → Reaches s (rule i v s).state) :
    Reaches s (s.completeModify f rule) := by
  unfold State.completeModify
  split
  · split
    · exact reaches_complete _ _ fun args => reaches_modifyStation _ _ h
    · exact .of_ledger rfl
  · exact .of_ledger rfl

theorem Lifecycle.ne_free_of_isEnlisted {a : Lifecycle} (h : a.isEnlisted = true) : a ≠ .free := by
  rintro rfl; cases h

/-- A command that changes a record's own fields is a turn of it. -/
theorem reaches_turned (i : Slot) (f : Record → Record) (hs : (s.record i).state ≠ .free)
    (ht : (f (s.record i)).state = (s.record i).state) (hf : (s.record i).Turns (f (s.record i)))
    (hb : (s.record i).Bounded → (f (s.record i)).Bounded) : Reaches s (s.modRecord i f) :=
  (Act.turned i f hs ht hf hb).reaches

theorem reaches_modifyAddress (i : Slot) (v : Octet) : Reaches s (modifyAddress i v s).state := by
  unfold modifyAddress
  have he (hs : (s.record i).state ≠ .free) (k : Bool) :
      Reaches s
        (if isIndividualAddress v = false then refuse s .badAddress
        else if s.addressHeldByOther i v = true then refuse s .addressInUse
        else answer (s.modRecord i fun r =>
          { r with address := v, resyncPending := r.resyncPending || k }) .ok []).state := by
    split
    · exact .of_ledger rfl
    · next hv =>
      split
      · exact .of_ledger rfl
      · next ho => exact (Act.readdressed i v _ hs (by simpa using hv) (by simpa using ho)).reaches
  split
  case h_5 e => exact he (by simp [e]) _
  case h_6 e => exact he (by simp [e]) _
  case h_7 e => exact he (by simp [e]) _
  all_goals exact .of_ledger rfl

theorem isGroupArgument_optional (v g : Octet) (h : isGroupArgument v = true)
    (hg : g ∈ optionalOctet v) : 0xF0 ≤ g.toNat ∧ g.toNat ≤ 0xFE := by
  unfold optionalOctet at hg
  split at hg
  · cases hg
  · next hv =>
    obtain rfl : v = g := by simpa using hg
    exact (by simpa [isGroupArgument] using h : v = 0 ∨ _).resolve_left hv

theorem one_le_optional (v q : Octet) (h : q ∈ optionalOctet v) : 1 ≤ q.toNat := by
  unfold optionalOctet at h
  split at h
  · cases h
  · next hv =>
    obtain rfl : v = q := by simpa using h
    have : v.toNat ≠ 0 := fun e => hv (BitVec.eq_of_toNat_eq e)
    omega

theorem reaches_modifyGroup (i : Slot) (v : Octet) (hs : (s.record i).state.isEnlisted = true) :
    Reaches s (modifyGroup i v s).state := by
  unfold modifyGroup
  split
  · next hg =>
    exact reaches_turned i _ (Lifecycle.ne_free_of_isEnlisted hs) rfl (.of_same _ _ rfl rfl)
      fun hb => { hb with group := fun g h => isGroupArgument_optional v g hg h }
  · exact .of_ledger rfl

theorem reaches_modifyQuietLimit (i : Slot) (v : Octet)
    (hs : (s.record i).state.isEnlisted = true) : Reaches s (modifyQuietLimit i v s).state :=
  reaches_turned i _ (Lifecycle.ne_free_of_isEnlisted hs) rfl (.of_same _ _ rfl rfl)
    fun hb => { hb with quietLimit := one_le_optional v, quietCount := Nat.zero_le _ }

theorem reaches_modifyClearCounters (i : Slot) (v : Octet)
    (hs : (s.record i).state.isEnlisted = true) : Reaches s (modifyClearCounters i v s).state :=
  reaches_turned i _ (Lifecycle.ne_free_of_isEnlisted hs) rfl (.of_same _ _ rfl rfl)
    fun hb => { hb with }

theorem reaches_setResync (i : Slot) (hs : (s.record i).state ≠ .free) :
    Reaches s (s.setResync i) :=
  reaches_turned i _ hs rfl (.of_same _ _ rfl rfl) fun hb => { hb with }

theorem reaches_holdStation (args : List Octet) : Reaches s (holdStation args s).state := by
  refine reaches_withSlot _ _ fun i => ?_
  split
  case h_4 st e => exact (Act.held i st e).reaches
  all_goals exact .of_ledger rfl

theorem reaches_releaseStation (args : List Octet) : Reaches s (releaseStation args s).state := by
  refine reaches_withSlot _ _ fun i => ?_
  split
  case h_4 e => exact (Act.releasedActive i _ e).reaches
  case h_5 e => exact (Act.releasedActive i _ e).reaches
  case h_6 e => exact (Act.releasedStaged i _ e).reaches
  case h_7 e => exact (Act.releasedLost i _ e).reaches
  all_goals exact .of_ledger rfl

theorem reaches_retireStation (args : List Octet) : Reaches s (retireStation args s).state := by
  refine reaches_withSlot _ _ fun i => ?_
  split
  case h_3 e => exact (Act.retired i (by rw [e]; rfl)).reaches
  case h_4 e => exact (Act.retired i (by rw [e]; rfl)).reaches
  all_goals exact .of_ledger rfl

theorem reaches_syncStation (args : List Octet) : Reaches s (syncStation args s).state := by
  refine reaches_withSlot _ _ fun i => ?_
  split
  case h_1 e => exact reaches_setResync i (by simp [e])
  case h_2 e => exact reaches_setResync i (by simp [e])
  case h_3 e => exact reaches_setResync i (by simp [e])
  all_goals exact .of_ledger rfl

theorem reaches_ringInsert (args : List Octet) : Reaches s (ringInsert args s).state := by
  simp only [ringInsert]
  refine reaches_withSlot _ _ fun i => ?_
  have he (hs : (s.record i).state.isEnlisted = true) (p : Nat) :
      Reaches s
        (if s.ring.length < p then refuse s .badPosition
        else if Config.ringCapacity ≤ s.ring.length then refuse s .ringFull
        else if Config.ringEntriesPerSlot ≤ (s.record i).ringCount then refuse s .slotLimit
        else answer { s.modRecord i (fun r => { r with ringCount := r.ringCount + 1 }) with
          ring := s.ring.take p ++ i :: s.ring.drop p
          ringCursor := cursorAfterInsert s.ring.length p s.ringCursor } .ok []).state := by
    split
    · exact .of_ledger rfl
    · split
      · exact .of_ledger rfl
      · split
        · exact .of_ledger rfl
        · next hp hl hc =>
          exact (Act.ringInserted i p hs (not_lt.mp hp) (not_le.mp hl) (not_le.mp hc)).reaches
  split
  case h_3 e => exact he (by rw [e]; rfl) _
  case h_4 e => exact he (by rw [e]; rfl) _
  all_goals exact .of_ledger rfl

theorem reaches_ringRemove (args : List Octet) : Reaches s (ringRemove args s).state := by
  simp only [ringRemove]
  split
  · exact .of_ledger rfl
  · next i hp => exact (Act.ringRemoved i _ hp).reaches

theorem reaches_ringRead (args : List Octet) : Reaches s (ringRead args s).state := by
  unfold ringRead
  split <;> exact .of_ledger rfl

theorem reaches_findStation (args : List Octet) : Reaches s (findStation args s).state := by
  simp only [findStation]
  split
  · split <;> exact .of_ledger rfl
  · exact .of_ledger rfl

theorem reaches_pollNow (args : List Octet) : Reaches s (pollNow args s).state := by
  refine reaches_withSlot _ _ fun i => ?_
  split
  case h_4 st e =>
    split
    · exact .of_ledger rfl
    · next hi =>
      split
      · exact .of_ledger rfl
      · next hl =>
        exact (Act.pollQueued i (by rw [e]; rfl) (by simpa using hi) (not_le.mp hl)).reaches
  all_goals exact .of_ledger rfl

theorem staging_ne_nil_of_queueable (h : ¬ s.stagingQueueable = false) : s.staging ≠ [] := by
  rintro e
  simp [State.stagingQueueable, e] at h

theorem Lifecycle.isEnlisted_of_takesText {a : Lifecycle} (h : ¬ a.takesText = false) :
    a.isEnlisted = true := by
  cases a with
  | inService st => rfl
  | held st => rfl
  | free => simp [Lifecycle.takesText] at h
  | retiring => simp [Lifecycle.takesText] at h

theorem reaches_queueText (args : List Octet) : Reaches s (queueText args s).state := by
  refine reaches_withSlot _ _ fun i => ?_
  split
  · exact .of_ledger rfl
  · next hs =>
    split
    · exact .of_ledger rfl
    · next ht =>
      split
      · exact .of_ledger rfl
      · next hx =>
        split
        · exact .of_ledger rfl
        · next b hb =>
          exact (Act.textQueued i b (Lifecycle.isEnlisted_of_takesText hs) (by simpa using ht) hb
            (staging_ne_nil_of_queueable hx)).reaches

theorem reaches_queueGroupText (args : List Octet) : Reaches s (queueGroupText args s).state := by
  simp only [queueGroupText]
  split
  · exact .of_ledger rfl
  · next ha =>
    split
    · exact .of_ledger rfl
    · next hx =>
      split
      · exact .of_ledger rfl
      · next b hb =>
        exact (Act.groupQueued _ b (by simpa using ha) hb (staging_ne_nil_of_queueable hx)).reaches

theorem reaches_cancelText (args : List Octet) : Reaches s (cancelText args s).state := by
  refine reaches_withSlot _ _ fun i => ?_
  split
  · exact .of_ledger rfl
  · next hs =>
    split
    · exact .of_ledger rfl
    · next b ht =>
      split
      · refine reaches_turned i _ hs rfl (.of_same _ _ rfl rfl) fun hb => { hb with noText := ?_ }
        exact fun h => absurd (ht.symm.trans h) (by simp)
      · next hf => exact (Act.cancelled i hs (by simpa using hf)).reaches

theorem reaches_readInbound (args : List Octet) : Reaches s (readInbound args s).state := by
  unfold readInbound
  split
  · exact .of_ledger rfl
  · exact (Act.cursorMoved 0 fun _ => Nat.zero_le _).reaches

theorem reaches_releaseInbound (args : List Octet) : Reaches s (releaseInbound args s).state := by
  unfold releaseInbound
  split
  · exact .of_ledger rfl
  · next x rest h => exact (Act.inboundReleased x rest h).reaches

theorem inboundCursorAfterRead_le
    (h : s.inboundCursor ≤ (s.inbound.head?.map (·.text.length)).getD 0) :
    s.inboundCursorAfterRead ≤ (s.inbound.head?.map (·.text.length)).getD 0 := by
  unfold State.inboundCursorAfterRead
  split
  · exact h
  · next x rest e =>
    rw [e] at h ⊢
    simp only [List.head?_cons, Option.map_some, Option.getD_some] at h ⊢
    split <;> omega

/-! ### The ends of an exchange -/

theorem retriable_of_baseWf {c : Context} {i : Slot} {b : BufferNo} (h : s.BaseWf)
    (hc : s.context = some c) (hx : c.exchange = .text i b) : s.Retriable i := by
  obtain ⟨_, _, _, _, _, _, _, _, _, ⟨_, hlim⟩, _⟩ := h.params
  obtain ⟨_, _, _, _, _, hflight, _⟩ := h.ledger.texts
  have := (hflight c hc i b hx).1
  exact ⟨hlim, by simp [this]⟩

theorem outboundText_of_baseWf {c : Context} {i : Slot} {b : BufferNo} (h : s.BaseWf)
    (hc : s.context = some c) (hx : c.exchange = .text i b) :
    (s.record i).outboundText = some b := by
  obtain ⟨_, _, _, _, _, hflight, _⟩ := h.ledger.texts
  exact (hflight c hc i b hx).1

theorem Exchange.slot?_eq_none (x : Exchange) (h : x.slot? = none) : ∃ b, x = .group b := by
  cases x with
  | group b => exact ⟨b, rfl⟩
  | poll i => cases h
  | text i b => cases h
  | sync i => cases h

theorem reaches_missExchange : Reaches s s.missExchange := by
  unfold State.missExchange
  split
  · exact .of_ledger rfl
  · next c hc =>
    cases hi : c.exchange.slot? with
    | none =>
      obtain ⟨b, hb⟩ := c.exchange.slot?_eq_none hi
      rw [hb]
      exact (Act.dropped c b hc hb).reaches
    | some i =>
      refine (Act.ended c i hc hi (touches_applyMiss _ hi fun g b hb => ?_) fun g b hb => ?_).reaches
      · exact retriable_of_baseWf g hc hb
      · rw [hb]; exact landed_applyMiss (outboundText_of_baseWf g hc hb)

theorem reaches_abandonExchange : Reaches s s.abandonExchange := by
  unfold State.abandonExchange
  split
  · exact .of_ledger rfl
  · next c hc =>
    cases hi : c.exchange.slot? with
    | none =>
      obtain ⟨b, hb⟩ := c.exchange.slot?_eq_none hi
      simp only [State.applyAbandoned, hb]
      exact (Act.dropped c b hc hb).reaches
    | some i =>
      refine (Act.ended c i hc hi (touches_applyAbandoned _ hi) fun g b hb => ?_).reaches
      exact landed_applyAbandoned _ hb (outboundText_of_baseWf g hc hb)

theorem Receiver.decode_good {rx rx' : Receiver} {testing : Bool} {v k a ctl : Octet}
    {x : List Octet} (h : rx.decode testing v = .judged rx' (.good k a ctl x)) :
    rx.kind = k ∧ rx.assembly = x ∧ ∃ e, rx.bodyEnd = some e ∧ e < rx.decoded := by
  unfold Receiver.decode at h
  split at h
  · split at h <;> cases h
  · cases h
  · cases h
  · next n hn =>
    split at h
    · split at h <;> cases h
    · next e he =>
      split at h
      · cases h
      · next h1 =>
        split at h
        · cases h
        · next h2 =>
          split at h <;> cases h
          exact ⟨rfl, rfl, e, he, by omega⟩

/-- A GOOD judgement hands over the kind and the octets assembled, the body's end having been passed (R126, R127). -/
theorem Receiver.take_good {rx rx' : Receiver} {lead pre : Octet} {testing : Bool}
    {o k a ctl : Octet} {x : List Octet}
    (h : rx.take lead pre testing o = .judged rx' (.good k a ctl x)) :
    rx.kind = k ∧ rx.assembly = x ∧ ∃ e, rx.bodyEnd = some e ∧ e < rx.decoded := by
  unfold Receiver.take at h
  split at h
  · split at h
    · exact decode_good (rx := { rx with escapeOpen := false }) h
    · split at h
      · exact decode_good (rx := { rx with escapeOpen := false }) h
      · cases h
  · split at h
    · split at h <;> cases h
    · split at h
      · cases h
      · exact decode_good h

/-- The text of a TEXT block judged GOOD holds 1 to 128 octets (R115, R126). -/
theorem length_of_good_text {rx rx' : Receiver} {lead pre o a ctl : Octet} {testing : Bool}
    {x : List Octet} (hw : rx.Wf testing) (hp : rx.phase = .body)
    (h : rx.endOctet.take lead pre testing o = .judged rx' (.good kindText a ctl x)) :
    1 ≤ x.length ∧ x.length ≤ 128 := by
  obtain ⟨hk, rfl, e, he, hlt⟩ := Receiver.take_good h
  obtain ⟨_, _, _, hlen, _, _, _, _, _, hbody⟩ := hw
  obtain ⟨_, h3, _, h4⟩ := hbody hp
  have hkl : kindHasLength rx.kind = true := by
    rw [show rx.kind = kindText from hk]; decide
  have hbe : rx.length.map (· + 4) = some e := by
    simpa [Receiver.bodyEnd, hkl] using he
  obtain ⟨n, hn, hne⟩ : ∃ n, rx.length = some n ∧ n + 4 = e := by simpa using hbe
  have hd : n + 4 < rx.decoded := by
    have : rx.endOctet.decoded = rx.decoded := rfl
    omega
  obtain ⟨m, hm, _, hlenx, _⟩ := h4 (by omega) hkl
  obtain rfl : m = n := by simpa [hn] using hm.symm
  have := hlen m hm
  have hx : rx.endOctet.assembly.length = rx.assembly.length := rfl
  omega

theorem reaches_replyJudged (c : Context) (o : Octet) (rx : Receiver) (j : Judgement)
    (hc : s.context = some c) (hp : s.receiver.phase = .body)
    (hj : s.takeOctet o = .judged rx j) :
    Reaches s ((s.applyJudgement c j).endContext c.exchange) := by
  cases hi : c.exchange.slot? with
  | none =>
    obtain ⟨b, hb⟩ := c.exchange.slot?_eq_none hi
    have : s.applyJudgement c j = s := by
      cases j with
      | bad e => simp [State.applyJudgement, hb, State.applyMiss]
      | good k a ctl x => simp [State.applyJudgement, State.applyGood, hb, State.applyMiss]
    rw [this, hb]
    exact (Act.dropped c b hc hb).reaches
  | some i =>
    refine (Act.ended c i hc hi ?_ fun g b hb => ?_).reaches
    · cases j with
      | bad e => exact touches_applyMiss _ hi fun g b hb => retriable_of_baseWf g hc hb
      | good k a ctl x =>
        refine touches_applyGood c k a ctl x hc hi (fun g b hb => retriable_of_baseWf g hc hb) ?_
        intro g hk hh hx
        obtain ⟨_, _, _, _, hroom, haddr⟩ := g.ledger.inbound
        subst hk
        exact ⟨hroom c hc i hx hh, haddr c hc (by rw [hi]; rfl), length_of_good_text g.receiver hp hj⟩
    · cases j with
      | bad e =>
        simp only [State.applyJudgement, hb]
        exact landed_applyMiss (outboundText_of_baseWf g hc hb)
      | good k a ctl x => exact landed_applyGood c k a ctl x hb (outboundText_of_baseWf g hc hb)

end

end Sys2Proof.Machine
end

section
namespace Sys2Proof.Machine

/-! ### Selection (R44 to R48) -/

theorem Passes.refl (s : State) : Passes s s :=
  ⟨_, _, _, _, _, rfl, .inr rfl, List.suffix_refl _, .inl ⟨rfl, rfl⟩, .inl rfl⟩

/-- What a source leaves and offers is fit for the selection. -/
def Offer.Fits (s : State) (o : Offer) : Prop :=
  Passes s o.state ∧ ∀ x, o.exchange = some x → s.Startable x

section
variable {s t : State}

theorem Passes.trans {u : State} (h : Passes s t) (h' : Passes t u) : Passes s u := by
  obtain ⟨fo, ur, pp, pc, rc, rfl, hf, hu, hp, hr⟩ := h
  obtain ⟨fo', ur', pp', pc', rc', rfl, hf', hu', hp', hr'⟩ := h'
  refine ⟨fo', ur', pp', pc', rc', rfl, ?_, hu'.trans hu, ?_, ?_⟩
  · obtain rfl | rfl := hf'
    · exact .inl rfl
    · exact hf
  · obtain ⟨rfl, rfl⟩ | h0 | ⟨hn, h1⟩ := hp'
    · exact hp
    · exact .inr (.inl h0)
    · refine .inr (.inr ⟨?_, h1⟩)
      obtain ⟨rfl, _⟩ | ⟨rfl, _⟩ | ⟨h2, _⟩ := hp
      · exact hn
      · exact absurd rfl hn
      · exact h2
  · obtain rfl | h1 := hr'
    · exact hr
    · exact .inr h1

theorem Passes.startable (h : Passes s t) (x : Exchange) : t.Startable x ↔ s.Startable x := by
  obtain ⟨_, _, _, _, _, rfl, _⟩ := h; exact Iff.rfl

theorem Offer.Fits.orElse {a : Offer} {next : State → Offer} (ha : a.Fits s)
    (hn : (next a.state).Fits a.state) : (a.orElse next).Fits s := by
  cases he : a.exchange with
  | some x => rw [a.orElse_of_some next x he]; exact ha
  | none =>
    rw [a.orElse_of_none next he]
    exact ⟨ha.1.trans hn.1, fun x hx => (ha.1.startable x).mp (hn.2 x hx)⟩

theorem Lifecycle.isInService_of_isVisited {a : Lifecycle} (h : a.isVisited = true) :
    a.isInService = true := by
  cases a with
  | inService st => rfl
  | free => cases h
  | held st => cases h
  | retiring => cases h

theorem Lifecycle.isInService_of_isProbed {a : Lifecycle} (h : a.isProbed = true) :
    a.isInService = true := by
  cases a with
  | inService st => rfl
  | free => cases h
  | held st => cases h
  | retiring => cases h

theorem startable_poll {i : Slot} (h : (s.record i).state.isInService = true) :
    s.Startable (.poll i) :=
  ⟨fun j hj => by cases hj; exact h, nofun, nofun⟩

theorem startable_sync {i : Slot} (h : (s.record i).state.isInService = true) :
    s.Startable (.sync i) :=
  ⟨fun j hj => by cases hj; exact h, nofun, nofun⟩

theorem startable_visitExchange {i : Slot} (h : (s.record i).state.isVisited = true) :
    s.Startable (s.visitExchange i) := by
  have hs := Lifecycle.isInService_of_isVisited h
  unfold State.visitExchange
  split
  · exact startable_sync hs
  · split
    · next b hb =>
      split
      · next hf =>
        exact ⟨fun j hj => by cases hj; exact hs, fun _ _ hx => by cases hx; exact ⟨hb, hf⟩, nofun⟩
      · exact startable_poll hs
    · exact startable_poll hs

theorem offerFollowOn_fits : s.offerFollowOn.Fits s := by
  have hp : Passes s { s with followOn := none } :=
    ⟨_, _, _, _, _, rfl, .inl rfl, List.suffix_refl _, .inl ⟨rfl, rfl⟩, .inl rfl⟩
  unfold State.offerFollowOn
  split
  · exact ⟨.refl s, nofun⟩
  · next i =>
    simp only
    split
    · next h =>
      exact ⟨hp, fun x hx => by
        cases hx; exact startable_poll (Lifecycle.isInService_of_isVisited h.1)⟩
    · exact ⟨hp, nofun⟩

theorem offerUrgent_fits : s.offerUrgent.Fits s := by
  unfold State.offerUrgent
  split
  · exact ⟨.refl s, nofun⟩
  · next i rest h =>
    have hp : Passes s { s with urgent := rest } :=
      ⟨_, _, _, _, _, rfl, .inr rfl, by rw [h]; exact List.suffix_cons i rest, .inl ⟨rfl, rfl⟩,
        .inl rfl⟩
    simp only
    split
    · next hv => exact ⟨hp, fun x hx => by cases hx; exact startable_visitExchange hv⟩
    · split
      · next hv =>
        exact ⟨hp, fun x hx => by
          cases hx; exact startable_sync (Lifecycle.isInService_of_isProbed hv)⟩
      · exact ⟨hp, nofun⟩

theorem offerGroup_fits : s.offerGroup.Fits s := by
  unfold State.offerGroup
  split
  · exact ⟨.refl s, nofun⟩
  · next b rest h =>
    refine ⟨.refl s, fun x hx => ?_⟩
    cases hx
    exact ⟨nofun, nofun, fun b' hx => by cases hx; rw [h]; rfl⟩

theorem offerProbe_fits : s.offerProbe.Fits s := by
  have h (hpass : s.probePass ≠ .none) :
      Offer.Fits s
        (match s.nextProbed s.probeCursor with
          | some i =>
            { state := { s with probePass := .inProgress, probeCursor := i.val + 1 }
              exchange := some (.sync i) }
          | none =>
            { state := { s with probePass := .none, probeCursor := 0 }, exchange := none }) := by
    split
    · next i hi =>
      have hprobed := List.find?_some hi
      simp only [Bool.and_eq_true] at hprobed
      refine ⟨⟨_, _, _, _, _, rfl, .inr rfl, List.suffix_refl _, .inr (.inr ⟨hpass, rfl, i.isLt⟩),
        .inl rfl⟩, fun x hx => ?_⟩
      cases hx
      exact startable_sync (Lifecycle.isInService_of_isProbed hprobed.2)
    · exact ⟨⟨_, _, _, _, _, rfl, .inr rfl, List.suffix_refl _, .inr (.inl ⟨rfl, rfl⟩), .inl rfl⟩,
        nofun⟩
  unfold State.offerProbe
  split
  · exact ⟨.refl s, nofun⟩
  · next e => exact h (by simp [e])
  · next e => exact h (by simp [e])

theorem nextVisited_spec (fuel p q : Nat) (i : Slot) (h : s.nextVisited p fuel = some (q, i)) :
    q < s.ring.length ∧ (s.record i).state.isVisited = true := by
  induction fuel generalizing p with
  | zero => cases h
  | succ fuel ih =>
    unfold State.nextVisited at h
    split at h
    · cases h
    · next j hj =>
      split at h
      · next hv =>
        cases h
        exact ⟨(List.getElem?_eq_some_iff.mp hj).1, hv⟩
      · exact ih _ h

theorem offerRing_fits : s.offerRing.Fits s := by
  unfold State.offerRing
  split
  · exact ⟨.refl s, nofun⟩
  · next p i h =>
    obtain ⟨hp, hv⟩ := nextVisited_spec _ _ _ _ h
    refine ⟨⟨_, _, _, _, _, rfl, .inr rfl, List.suffix_refl _, .inl ⟨rfl, rfl⟩,
      .inr (Nat.mod_lt _ (by omega))⟩, fun x hx => ?_⟩
    cases hx
    exact startable_visitExchange hv

theorem choose_fits : s.choose.Fits s :=
  (((offerFollowOn_fits.orElse offerUrgent_fits).orElse offerGroup_fits).orElse
    offerProbe_fits).orElse offerRing_fits

/-- A selection passes sources over, and then begins the exchange offered, if any (R42 to R44). -/
theorem select_cases (s : State) :
    s.select = s ∨
      (s.engine = .ready ∧ s.stopRequested = false ∧ s.choose.exchange = none ∧
        s.select = s.choose.state) ∨
      ∃ x, s.engine = .ready ∧ s.stopRequested = false ∧ s.Startable x ∧
        s.select = s.choose.state.beginExchange x := by
  by_cases h : s.engine = .ready ∧ s.stopRequested = false ∧ s.selectable = true
  · obtain ⟨he, hs, hc⟩ := h
    rw [s.select_of_ready he hs hc]
    cases hx : s.choose.exchange with
    | none => exact .inr (.inl ⟨he, hs, rfl, rfl⟩)
    | some x => exact .inr (.inr ⟨x, he, hs, choose_fits.2 x hx, rfl⟩)
  · exact .inl (s.select_of_not h)

theorem reaches_select : Reaches s s.select := by
  obtain e | ⟨_, _, _, e⟩ | ⟨x, he, _, hx, e⟩ := select_cases s
  · rw [e]; exact .of_ledger rfl
  · rw [e]; exact (Act.passed choose_fits.1).reaches
  · rw [e]; exact (Act.began x choose_fits.1 he hx).reaches

/-! ### Line events -/

theorem ledger_enterGap (s : State) : s.enterGap.ledger = s.ledger := by
  unfold State.enterGap
  split <;> rfl

theorem ledger_endTurn (s : State) : s.endTurn.ledger = s.ledger := by
  unfold State.endTurn
  split
  · rfl
  · exact ledger_enterGap s

theorem ledger_enterSettling (s : State) : s.enterSettling.ledger = s.ledger := by
  unfold State.enterSettling
  simp only
  split
  · rfl
  · exact ledger_endTurn _

theorem ledger_noteLineChange (s : State) : s.noteLineChange.ledger = s.ledger := by
  unfold State.noteLineChange
  split <;> rfl

theorem sameBase_noteLineChange (s : State) : SameBase s s.noteLineChange := by
  unfold State.noteLineChange
  split <;> exact ⟨rfl, rfl, rfl, rfl, rfl⟩

theorem ledger_startLine (s : State) : s.startLine.ledger = s.ledger :=
  (rfl : s.startLine.ledger = s.enterGap.ledger).trans (ledger_enterGap s)

theorem ledger_stopLine (s : State) : s.stopLine.ledger = s.ledger := by
  unfold State.stopLine
  split <;> rfl

theorem ledger_lineTestEvent (s : State) : s.lineTestEvent.ledger = s.ledger := by
  unfold State.lineTestEvent
  split
  · rfl
  · split
    · split
      · rfl
      · split
        · rfl
        · split <;> rfl
    · rfl

theorem ledger_ctsChanged (s : State) (a : Bool) : (s.ctsChanged a).ledger = s.ledger := by
  have h := ledger_noteLineChange { s with cts := a }
  unfold State.ctsChanged
  simp only
  split <;> exact h

theorem reaches_dcdChanged (a : Bool) : Reaches s (s.dcdChanged a) := by
  have h := ledger_noteLineChange { s with dcd := a }
  unfold State.dcdChanged
  simp only
  split
  · exact .of_ledger h
  · obtain ⟨r, u, hr, hu, e⟩ := reaches_missExchange (s := { s with dcd := false }.noteLineChange)
    refine ⟨r, u, ?_, hu, (ledger_enterSettling _).trans e⟩
    obtain ⟨h1, h2, h3, h4, h5⟩ := sameBase_noteLineChange { s with dcd := false }
    obtain ⟨h1', h2', h3', h4', h5'⟩ := hr
    exact ⟨h1'.trans h1, h2'.trans h2, h3'.trans h3, h4'.trans h4, h5'.trans h5⟩
  · exact .of_ledger ((ledger_endTurn _).trans h)
  · exact .of_ledger h

theorem reaches_ctsLostEvent : Reaches s s.ctsLostEvent := by
  unfold State.ctsLostEvent
  split
  · exact reaches_abandonExchange.congr rfl
  · exact .of_ledger rfl

theorem reaches_ctsTimerExpiry : Reaches s s.ctsTimerExpiry := by
  unfold State.ctsTimerExpiry
  split
  · exact reaches_abandonExchange.congr rfl
  · exact .of_ledger rfl

theorem reaches_replyTimerExpiry : Reaches s s.replyTimerExpiry := by
  unfold State.replyTimerExpiry
  split
  · split
    · exact reaches_missExchange.congr (ledger_endTurn _)
    all_goals exact .of_ledger rfl
  · exact .of_ledger rfl

theorem ledger_gapTimerExpiry (s : State) : s.gapTimerExpiry.ledger = s.ledger := by
  unfold State.gapTimerExpiry
  split <;> rfl

theorem ledger_settleTimerExpiry (s : State) : s.settleTimerExpiry.ledger = s.ledger := by
  unfold State.settleTimerExpiry
  split <;> rfl

theorem ledger_probeTimerExpiry (s : State) : s.probeTimerExpiry.ledger = s.ledger := by
  unfold State.probeTimerExpiry
  split
  · simp only
    split <;> rfl
  · rfl

theorem reaches_lastCrcOctetSent : Reaches s s.lastCrcOctetSent := by
  unfold State.lastCrcOctetSent
  split
  · exact .of_ledger rfl
  · split
    · exact .of_act .whollySent rfl
    · exact .of_ledger rfl

theorem reaches_turnRound (c : Context) (hc : s.context = some c) : Reaches s (s.turnRound c) := by
  unfold State.turnRound
  split
  · next b hb =>
    rw [hb]
    exact .of_act (.sent c b hc hb) (ledger_endTurn _)
  all_goals exact .of_ledger rfl

theorem ledger_testSent (s : State) (l : LineTest) : (s.testSent l).ledger = s.ledger := by
  unfold State.testSent
  simp only
  split
  · rfl
  · split <;> rfl

theorem reaches_lastPadOctetEnded : Reaches s s.lastPadOctetEnded := by
  unfold State.lastPadOctetEnded
  split
  · exact .of_ledger rfl
  · split
    · split
      · next _ c _ hc =>
        split
        · exact .of_ledger rfl
        · exact reaches_turnRound c hc
      · exact .of_ledger (ledger_testSent s _)
      · exact .of_ledger rfl
    · exact .of_ledger rfl

theorem ledger_octetAlignmentTaken (s : State) (bits : List Bool) :
    (s.octetAlignmentTaken bits).ledger = s.ledger := by
  unfold State.octetAlignmentTaken
  split <;> rfl

theorem ledger_alignmentGivenUp (s : State) (o : Octet) :
    (s.alignmentGivenUp o).ledger = s.ledger := by
  unfold State.alignmentGivenUp
  split <;> rfl

theorem ledger_leadDetected (s : State) : s.leadDetected.ledger = s.ledger := by
  unfold State.leadDetected
  split <;> rfl

theorem ledger_bodyOctetDecoded (s : State) (o : Octet) :
    (s.bodyOctetDecoded o).ledger = s.ledger := by
  unfold State.bodyOctetDecoded
  split
  · split <;> rfl
  · rfl

theorem ledger_testJudged (s : State) (l : LineTest) (rx : Receiver) (j : Judgement) :
    (s.testJudged l rx j).ledger = s.ledger := by
  unfold State.testJudged
  simp only
  split <;> rfl

theorem reaches_blockJudged (o : Octet) : Reaches s (s.blockJudged o) := by
  unfold State.blockJudged
  split
  · next h =>
    split
    · exact .of_ledger rfl
    · next rx j hj =>
      split
      · next _ c _ hc =>
        exact (reaches_replyJudged c o rx j hc h.2 hj).congr (ledger_enterSettling _)
      · exact .of_ledger (ledger_testJudged s _ rx j)
      · exact .of_ledger rfl
  · exact .of_ledger rfl

/-! ### Every command but the three that free records -/

theorem ledger_portWrite (t : State) (h : t.ledger = s.ledger) :
    (s.portWrite t).ledger = s.ledger := by
  unfold State.portWrite
  split
  · rfl
  · exact h

theorem reaches_portReadStep (o : Octet) (h : Reaches s t) : Reaches s (s.portReadStep o t) := by
  unfold State.portReadStep
  split
  · exact .of_ledger rfl
  · exact h.congr rfl

theorem reaches_inboundTextRead :
    Reaches s (s.portReadStep s.inboundOctet
      { s with inboundCursor := s.inboundCursorAfterRead }) :=
  reaches_portReadStep _ (Act.cursorMoved _ inboundCursorAfterRead_le).reaches

/-- Every command but NEXT ATTENTION, TABLE RESET and master reset is one act on the ledger. -/
theorem reaches_exec (c : Instr) (h : exec c s = .next t) (h1 : c ≠ .nextAttention)
    (h2 : c ≠ .tableReset) (h3 : c ≠ .masterReset) : Reaches s t := by
  cases c <;> cases h
  case acceptance => exact .of_ledger (ledger_portWrite _ (by split <;> rfl))
  case argumentWrite => exact .of_ledger (ledger_portWrite _ (by split <;> rfl))
  case resultRead => exact reaches_portReadStep _ (.of_ledger (by split <;> rfl))
  case unknownCommand =>
    refine .of_ledger ?_
    split
    · split <;> rfl
    · rfl
  case admitStation => exact reaches_complete _ _ reaches_admitStation
  case findStation => exact reaches_complete _ _ reaches_findStation
  case readStation =>
    exact reaches_complete _ _ fun _ => reaches_withSlot _ _ fun _ => .of_ledger rfl
  case modifyStationAddress =>
    exact reaches_completeModify _ _ fun i v _ => reaches_modifyAddress i v
  case modifyStationGroup => exact reaches_completeModify _ _ reaches_modifyGroup
  case modifyStationQuietLimit => exact reaches_completeModify _ _ reaches_modifyQuietLimit
  case modifyStationClearCounters => exact reaches_completeModify _ _ reaches_modifyClearCounters
  case holdStation => exact reaches_complete _ _ reaches_holdStation
  case releaseStation => exact reaches_complete _ _ reaches_releaseStation
  case retireStation => exact reaches_complete _ _ reaches_retireStation
  case syncStation => exact reaches_complete _ _ reaches_syncStation
  case tableReset => exact absurd rfl h2
  case ringInsert => exact reaches_complete _ _ reaches_ringInsert
  case ringRemove => exact reaches_complete _ _ reaches_ringRemove
  case ringRead => exact reaches_complete _ _ reaches_ringRead
  case ringStatus => exact reaches_complete _ _ fun _ => .of_ledger rfl
  case pollNow => exact reaches_complete _ _ reaches_pollNow
  case queueText => exact reaches_complete _ _ reaches_queueText
  case queueGroupText => exact reaches_complete _ _ reaches_queueGroupText
  case cancelText => exact reaches_complete _ _ reaches_cancelText
  case clearStaging => exact reaches_complete _ _ fun _ => .of_ledger rfl
  case readInbound => exact reaches_complete _ _ reaches_readInbound
  case releaseInbound => exact reaches_complete _ _ reaches_releaseInbound
  case bufferStatus => exact reaches_complete _ _ fun _ => .of_ledger rfl
  case nextAttention => exact absurd rfl h1
  case startLine =>
    refine reaches_complete _ _ fun _ => ?_
    unfold startLine
    split
    case h_1 => exact .of_ledger (ledger_startLine s)
    case h_2 => exact .of_ledger (ledger_startLine s)
    all_goals exact .of_ledger rfl
  case stopLine => exact reaches_complete _ _ fun _ => .of_ledger (ledger_stopLine s)
  case abortLine => exact reaches_complete _ _ fun _ => reaches_abandonExchange.congr rfl
  case lineTest => exact .of_ledger (ledger_lineTestEvent s)
  case stagingTextWrite => exact .of_ledger (ledger_portWrite _ (by split <;> rfl))
  case inboundTextRead => exact reaches_inboundTextRead
  case causeClearWrite => exact .of_ledger (ledger_portWrite _ rfl)
  case maskWrite => exact .of_ledger (ledger_portWrite _ rfl)
  case parameterIndexWrite => exact .of_ledger (ledger_portWrite _ rfl)
  case parameterDataRead => exact reaches_portReadStep _ (.of_ledger rfl)
  case parameterDataWrite => exact .of_ledger (ledger_portWrite _ (by split <;> rfl))
  case lineStatusRead => exact reaches_portReadStep _ (.of_ledger rfl)
  case lineStatusPortWrite => exact .of_ledger rfl
  case masterReset => exact absurd rfl h3
  case rstReleased => exact .of_ledger rfl
  case ctsChange a =>
    split
    · exact .of_ledger rfl
    · exact .of_ledger (ledger_ctsChanged s a)
  case dcdChange a =>
    split
    · exact .of_ledger rfl
    · exact reaches_dcdChanged a
  case ctsLost => exact reaches_ctsLostEvent
  case selection => exact reaches_select
  case lastCrcOctetSent => exact reaches_lastCrcOctetSent
  case lastPadOctetEnded => exact reaches_lastPadOctetEnded
  case leadDetected => exact .of_ledger (ledger_leadDetected s)
  case blockJudged o => exact reaches_blockJudged o
  case gapTimerExpiry => exact .of_ledger (ledger_gapTimerExpiry s)
  case ctsTimerExpiry => exact reaches_ctsTimerExpiry
  case replyTimerExpiry => exact reaches_replyTimerExpiry
  case settleTimerExpiry => exact .of_ledger (ledger_settleTimerExpiry s)
  case probeTimerExpiry => exact .of_ledger (ledger_probeTimerExpiry s)
  case octetAlignmentTaken b => exact .of_ledger (ledger_octetAlignmentTaken s b)
  case alignmentGivenUp o => exact .of_ledger (ledger_alignmentGivenUp s o)
  case bodyOctetDecoded o => exact .of_ledger (ledger_bodyOctetDecoded s o)

end

end Sys2Proof.Machine
end

section
namespace Sys2Proof.Machine

/-! ### What an octet time is made of (R120, R129, R134) -/

/-- A predicate that the acts of the internal loop keep; `Short` holds of the bits that an octet in assembly may keep. -/
structure LoopLaw (P : State → Prop) (Short : List Bool → Prop) : Prop where
  short : ∀ {s : State} {bits : List Bool}, P s → bits.length = 8 →
    Short ((s.receiver.octetBits ++ bits).drop 8)
  hunt : ∀ {s : State} {bits : List Bool}, P s → s.receiver.phase = .hunting →
    bits.length = 8 ∨ Short bits → P (s.huntLoop bits)
  bits : ∀ {s : State} {bits : List Bool}, P s →
    s.receiver.phase = .aligned ∨ s.receiver.phase = .body → Short bits →
    P { s with receiver := { s.receiver with octetBits := bits } }
  lead : ∀ {s : State}, P s → P s.leadDetected
  given : ∀ {s : State} (o : Octet), P s → P (s.alignmentGivenUp o)
  body : ∀ {s : State} (o : Octet), P s → P (s.bodyOctetDecoded o)
  judged : ∀ {s : State} (o : Octet), P s → P (s.blockJudged o)

/-- A predicate that the acts of an octet time keep. The framer is advanced past an octet that is not the last of the CRC, or
round the internal loop. -/
structure TimeLaw (P : State → Prop) (Short : List Bool → Prop) : Prop extends
    LoopLaw P Short where
  select : ∀ {s : State}, P s → P s.select
  count : ∀ {s : State}, P s → P s.countTimers
  crc : ∀ {s : State}, P s → P s.lastCrcOctetSent
  advance : ∀ {s : State}, P s → s.engine = .testing ∨ s.engine = .stopped ∨ s.endsCrc = false →
    P s.advanceFramer
  pad : ∀ {s : State}, P s → P s.lastPadOctetEnded
  cut : ∀ {s : State}, P s → P s.ctsLostEvent
  cts : ∀ {s : State}, P s → P s.ctsTimerExpiry
  reply : ∀ {s : State}, P s → P s.replyTimerExpiry
  settle : ∀ {s : State}, P s → P s.settleTimerExpiry
  gap : ∀ {s : State}, P s → P s.gapTimerExpiry
  probe : ∀ {s : State}, P s → P s.probeTimerExpiry

section
variable {P : State → Prop} {Short : List Bool → Prop} {s : State}

theorem LoopLaw.loopOctet (hP : LoopLaw P Short) (o : Octet) (hs : P s) : P (s.loopOctet o) := by
  unfold State.loopOctet
  split
  · split
    · exact hP.lead hs
    · exact hP.given o hs
  · split
    · exact hP.body o hs
    · exact hP.judged o hs
  all_goals exact hs

theorem LoopLaw.loopRest (hP : LoopLaw P Short) {bits : List Bool} (hb : Short bits) (hs : P s) :
    P (s.loopRest bits) := by
  unfold State.loopRest
  split
  case h_1 h => exact hP.hunt hs h (.inr hb)
  case h_2 h => exact hP.bits hs (.inl h) hb
  case h_3 h => exact hP.bits hs (.inr h) hb
  all_goals exact hs

theorem LoopLaw.loopBits (hP : LoopLaw P Short) {bits : List Bool} (hl : bits.length = 8)
    (hs : P s) : P (s.loopBits bits) := by
  have h := hP.loopRest (hP.short hs hl)
    (hP.loopOctet (octetOfBits ((s.receiver.octetBits ++ bits).take 8)) hs)
  unfold State.loopBits
  split
  case h_1 hp => exact hP.hunt hs hp (.inl hl)
  case h_2 => exact h
  case h_3 => exact h
  all_goals exact hs

/-- The loop of a LINE TEST leaves TESTING for STOPPED alone (R151). -/
theorem testingLaw :
    LoopLaw (fun s => s.engine = .testing ∨ s.engine = .stopped) fun _ => True where
  short _ _ := trivial
  hunt hs _ _ := hs
  bits hs _ _ := hs
  lead {s} hs := by
    unfold State.leadDetected
    split
    · obtain hs | hs := hs <;> simp [hs]
    · exact hs
  given o hs := by
    unfold State.alignmentGivenUp
    split <;> exact hs
  body o hs := by
    unfold State.bodyOctetDecoded
    split
    · split <;> exact hs
    · exact hs
  judged {s} o hs := by
    unfold State.blockJudged
    split
    · split
      · exact hs
      · split
        · next he _ => obtain hs | hs := hs <;> rw [hs] at he <;> cases he
        · unfold State.testJudged
          simp only
          split
          · exact .inr rfl
          · exact hs
        · exact hs
    · exact hs

theorem State.whenever_keeps (b : Bool) (event : State → State) (h : P s → P (event s)) (hs : P s) :
    P (s.whenever b event) := by
  unfold State.whenever
  split
  · exact h hs
  · exact hs

theorem TimeLaw.transmitOctet (hP : TimeLaw P Short) (hs : P s) : P s.transmitOctet := by
  have hcut : ∀ b : State, P b → P (b.whenever b.blockOut State.lastPadOctetEnded).ctsLostEvent :=
    fun b hb => hP.cut (State.whenever_keeps _ _ hP.pad hb)
  have hgo : ∀ a : State, P a →
      (s.endsCrc = false → a.engine = .testing ∨ a.engine = .stopped ∨ a.endsCrc = false) →
      P (if s.endsCrc then a.lastCrcOctetSent else a.advanceFramer) := by
    intro a ha hc
    split
    · exact hP.crc ha
    · next h => exact hP.advance ha (hc (by simpa using h))
  unfold State.transmitOctet
  split
  case h_1 he =>
    have : s.whenever (s.engine == .testing) (fun t => t.loopBits (lineBits t.octetOut)) = s := by
      simp [State.whenever, he]
    simp only [he] at this ⊢
    rw [this]
    exact hcut _ (hgo s hs fun h => .inr (.inr h))
  case h_2 he =>
    refine hcut _ (hgo _ (State.whenever_keeps _ _ (hP.loopBits rfl) hs) fun _ => ?_)
    have := State.whenever_keeps (P := fun s => s.engine = .testing ∨ s.engine = .stopped)
      (s.engine == .testing) (fun t => t.loopBits (lineBits t.octetOut))
      (testingLaw.loopBits rfl) (.inl he)
    exact this.imp_right .inl
  all_goals exact hs

theorem TimeLaw.expireTimers (hP : TimeLaw P Short) (hs : P s) : P s.expireTimers := by
  unfold State.expireTimers
  refine State.whenever_keeps _ _ hP.probe (State.whenever_keeps _ _ hP.gap ?_)
  refine State.whenever_keeps _ _ hP.settle (State.whenever_keeps _ _ hP.reply ?_)
  exact State.whenever_keeps _ _ hP.cts hs

/-- An octet time keeps what its acts keep. -/
theorem TimeLaw.octetTime (hP : TimeLaw P Short) (hs : P s) : P s.octetTime :=
  hP.select (hP.expireTimers (hP.transmitOctet (hP.count (hP.select hs))))

end

/-! ### Laws that the ledger keeps -/

/-- A predicate of the ledger that every act keeps, and so do the three commands that free records. -/
structure LedgerLaw (P : State → Prop) : Prop where
  congr : ∀ {s t : State}, P s → t.ledger = s.ledger → P t
  act : ∀ {s t : State}, Act s t → P s → P t
  taken : ∀ {s : State} {i : Slot} {rest : List Slot}, s.attention = i :: rest → P s →
    P { s.setRecord i (takenRecord (s.record i)) with attention := rest }
  emptied : ∀ {s : State}, P s → P s.emptyTable
  reset : P State.reset

section
variable {P : State → Prop} (hP : LedgerLaw P) {s t : State}
include hP

theorem LedgerLaw.reaches (h : Reaches s t) (hs : P s) : P t := by
  obtain ⟨r, u, hr, hu, ht⟩ := h
  exact hP.congr (hP.act hu (hP.congr hs hr.1)) ht

theorem LedgerLaw.nextAttention (args : List Octet) (hs : P s) :
    P (nextAttention args s).state := by
  unfold Machine.nextAttention
  split
  · exact hs
  · next h => exact hP.taken h hs

theorem LedgerLaw.tableReset (args : List Octet) (hs : P s) : P (tableReset args s).state := by
  unfold Machine.tableReset
  split
  · exact hP.emptied hs
  · exact hs

theorem LedgerLaw.complete (n : CommandName) (body : List Octet → State → Completion)
    (h : ∀ args, P (body args s).state) (hs : P s) : P (s.complete n body) := by
  obtain e | ⟨_, _, _, e⟩ | ⟨args, _, _, e⟩ := s.complete_cases n body
  · rw [e]; exact hs
  · rw [e]; exact hP.congr hs rfl
  · rw [e]; exact hP.congr (h args) rfl

/-- Every command keeps the law. -/
theorem LedgerLaw.exec (c : Instr) (h : exec c s = .next t) (hs : P s) : P t := by
  by_cases h1 : c = .nextAttention
  · subst h1; cases h; exact hP.complete _ _ (fun args => hP.nextAttention args hs) hs
  by_cases h2 : c = .tableReset
  · subst h2; cases h; exact hP.complete _ _ (fun args => hP.tableReset args hs) hs
  by_cases h3 : c = .masterReset
  · subst h3; cases h; exact hP.congr hP.reset rfl
  exact hP.reaches (reaches_exec c h h1 h2 h3) hs

/-- The law of an octet time, from the laws of the acts that make it up. -/
theorem LedgerLaw.timeLaw : TimeLaw P fun _ => True where
  short _ _ := trivial
  hunt hs _ _ := hP.congr hs rfl
  bits hs _ _ := hP.congr hs rfl
  lead hs := hP.congr hs (ledger_leadDetected _)
  given o hs := hP.congr hs (ledger_alignmentGivenUp _ o)
  body o hs := hP.congr hs (ledger_bodyOctetDecoded _ o)
  judged o hs := hP.reaches (reaches_blockJudged o) hs
  select hs := hP.reaches reaches_select hs
  count hs := hP.congr hs rfl
  crc hs := hP.reaches reaches_lastCrcOctetSent hs
  advance hs _ := hP.congr hs rfl
  pad hs := hP.reaches reaches_lastPadOctetEnded hs
  cut hs := hP.reaches reaches_ctsLostEvent hs
  cts hs := hP.reaches reaches_ctsTimerExpiry hs
  reply hs := hP.reaches reaches_replyTimerExpiry hs
  settle hs := hP.congr hs (ledger_settleTimerExpiry _)
  gap hs := hP.congr hs (ledger_gapTimerExpiry _)
  probe hs := hP.congr hs (ledger_probeTimerExpiry _)

/-- Every step keeps the law. -/
theorem LedgerLaw.step (h : step s = .next t) (hs : P s) : P t := by
  unfold Machine.step at h
  split at h
  · exact hP.exec _ h (hP.congr hs rfl)
  · cases h; exact hP.timeLaw.octetTime hs

end

end Sys2Proof.Machine
end

section
namespace Sys2Proof.Machine

/-! ### RETIRE STATION and the RETIRED test, said once (R21, R22, R31) -/

section
variable {s : State} {i : Slot}

theorem State.record_noted_same (s : State) (i : Slot) (rs : ReasonSet) (r : Record) :
    (s.noted i rs r).record i = { r with reasons := r.reasons ||| rs } :=
  (State.record_congr _ (s.setRecord i { r with reasons := r.reasons ||| rs }) rfl i).trans
    (s.record_setRecord_same i _)

/-- Noting changes the records and the attention list alone. -/
theorem State.noted_frame (s : State) (i : Slot) (rs : ReasonSet) (r : Record) :
    SlotFrame s (s.noted i rs r) := ⟨_, _, _, _, _, _, _, rfl⟩

/-- The reasons that the RETIRED test adds to a RETIRING record (R22). -/
def State.retiredIf (s : State) (i : Slot) : ReasonSet :=
  if (s.record i).inboundCount = 0 ∧ s.contextNames i = false then 0x200 else 0

theorem State.testRetired_of_retiring (h : (s.record i).state = .retiring) :
    s.testRetired i = s.noted i (s.retiredIf i) (s.record i) := by
  unfold State.retiredIf
  split
  · next hc =>
    rw [s.testRetired_of_condition i h hc.1 hc.2, s.raise_eq_noted i _ (by rw [h]; rfl)]
    rfl
  · next hc =>
    rw [State.noted_zero, State.setRecord_record]
    unfold State.testRetired
    exact if_neg fun ⟨_, h1, h2⟩ => hc ⟨h1, h2⟩

/-- The ring cursor names an entry, or 0 of an empty ring (R27). -/
def CursorWithin (rc : List Slot × Nat) : Prop :=
  (rc.1 ≠ [] → rc.2 < rc.1.length) ∧ (rc.1 = [] → rc.2 = 0)

theorem cursorWithin_removeEntry (rc : List Slot × Nat) (p : Nat) (hp : p < rc.1.length)
    (h : CursorWithin rc) : CursorWithin (removeEntry rc p) := by
  obtain ⟨l, k⟩ := rc
  have hne : l ≠ [] := by rintro rfl; simp at hp
  have hk : k < l.length := h.1 hne
  have hl : (l.eraseIdx p).length = l.length - 1 := List.length_eraseIdx_of_lt hp
  unfold removeEntry cursorAfterRemove CursorWithin
  simp only at hp ⊢
  constructor
  · intro he
    have : 0 < (l.eraseIdx p).length := List.length_pos_iff.mpr he
    rw [hl] at this ⊢
    split
    · omega
    · split
      · omega
      · split <;> omega
  · intro he
    have : l.length - 1 = 0 := by rw [← hl, he]; rfl
    rw [if_pos this]

theorem cursorWithin_purgeEntries (i : Slot) (rc : List Slot × Nat) (k : Nat)
    (h : CursorWithin rc) : CursorWithin (purgeEntries i rc k) := by
  induction k generalizing rc with
  | zero => exact h
  | succ k ih =>
    unfold purgeEntries
    split
    · next hk =>
      exact ih _ (cursorWithin_removeEntry rc k (List.getElem?_eq_some_iff.mp hk).1 h)
    · exact ih _ h

/-- The retire purge leaves the entries that do not name the slot, in their order (R31). -/
theorem ring_purgeEntries (i : Slot) (l : List Slot) (c k : Nat) (hk : k ≤ l.length) :
    (purgeEntries i (l, c) k).1 = (l.take k).filter (· != i) ++ l.drop k := by
  induction k generalizing l c with
  | zero => simp [purgeEntries]
  | succ k ih =>
    have hlt : k < l.length := hk
    unfold purgeEntries
    rw [List.take_succ_eq_append_getElem hlt, List.filter_append]
    split
    · next he =>
      have hi : l[k] = i := by simpa [hlt] using he
      have hlen : k ≤ (l.eraseIdx k).length := by
        rw [List.length_eraseIdx_of_lt hlt]; omega
      rw [removeEntry, ih _ _ hlen, List.take_eraseIdx_eq_take_of_le _ _ _ (Nat.le_refl k),
        List.eraseIdx_eq_take_drop_succ]
      simp [hi, Nat.min_eq_left (Nat.le_of_lt hlt)]
    · next he =>
      have hi : l[k] ≠ i := fun e => he (by simp [hlt, e])
      rw [ih _ _ (Nat.le_of_lt hlt), List.drop_eq_getElem_cons hlt]
      simp [hi]

theorem ring_purgeEntries_length (i : Slot) (l : List Slot) (c : Nat) :
    (purgeEntries i (l, c) l.length).1 = l.filter (· != i) := by
  rw [ring_purgeEntries i l c _ (Nat.le_refl _)]; simp

/-- A record just retired, its text aside (R21, R99). -/
def Record.retired (r : Record) : Record :=
  { r with state := .retiring, ringCount := 0, reasons := 0, failureCause := .none }

/-- The slot taken off every list (R21, R31, R37, R99). -/
def State.unlisted (s : State) (i : Slot) : State :=
  { s.setRecord i (s.record i).retired with
    ring := s.ring.filter (· != i)
    ringCursor := (purgeEntries i (s.ring, s.ringCursor) s.ring.length).2
    urgent := s.urgent.filter (· != i)
    attention := s.attention.filter (· != i) }

/-- RETIRE STATION takes the slot off every list, frees a FILLED text and tests RETIRED (R21, R22). -/
theorem State.retire_eq (s : State) (i : Slot) :
    s.retire i =
      (if s.textFilled i then (s.unlisted i).freeText i else s.unlisted i).testRetired i := by
  have h : (((s.modRecord i fun r => { r with state := .retiring }).purgeRing i).removeUrgent
      i).purgeReasons i = s.unlisted i := by
    simp only [State.purgeRing, State.removeUrgent, State.purgeReasons, State.unlisted,
      State.modRecord_ring, State.modRecord_ringCursor, ring_purgeEntries_length]
    simp [State.modRecord, State.setRecord, State.record, Record.retired]
  simp only [State.retire, h]

@[simp] theorem State.record_unlisted_same (s : State) (i : Slot) :
    (s.unlisted i).record i = (s.record i).retired :=
  (State.record_congr _ (s.setRecord i (s.record i).retired) rfl i).trans
    (s.record_setRecord_same i _)

theorem State.record_unlisted_ne (s : State) (i j : Slot) (h : j ≠ i) :
    (s.unlisted i).record j = s.record j :=
  (State.record_congr _ (s.setRecord i (s.record i).retired) rfl j).trans
    (s.record_setRecord_ne i j _ h)

/-- The slot's record and lists with a FILLED text freed, before the RETIRED test. -/
def State.purged (s : State) (i : Slot) : State :=
  if s.textFilled i then (s.unlisted i).freeText i else s.unlisted i

theorem State.record_purged_ne (s : State) (i j : Slot) (h : j ≠ i) :
    (s.purged i).record j = s.record j := by
  unfold State.purged
  split
  · rw [State.record_freeText_ne _ _ _ h, s.record_unlisted_ne i j h]
  · exact s.record_unlisted_ne i j h

theorem State.record_purged_same (s : State) (i : Slot) :
    (s.purged i).record i =
      if s.textFilled i then (s.record i).retired.textFreed else (s.record i).retired := by
  unfold State.purged
  split
  · rw [State.record_freeText_same, s.record_unlisted_same]; rfl
  · exact s.record_unlisted_same i

theorem State.reasons_purged (s : State) (i : Slot) : ((s.purged i).record i).reasons = 0 := by
  rw [s.record_purged_same]
  split <;> rfl

/-- Freeing the text leaves every list as it was. -/
theorem State.purged_frame (s : State) (i : Slot) : SlotFrame (s.unlisted i) (s.purged i) := by
  unfold State.purged
  split
  · exact slotFrame_freeText _ i
  · exact .refl _

theorem State.attention_freeText (s : State) (i : Slot) :
    (s.freeText i).attention = s.attention := by
  rw [s.freeText_frame i]

theorem State.attention_purged (s : State) (i : Slot) :
    (s.purged i).attention = s.attention.filter (· != i) := by
  unfold State.purged
  split
  · rw [State.attention_freeText]; rfl
  · rfl

/-- RETIRE STATION in the terms of the statements. -/
theorem State.retire_eq_noted (s : State) (i : Slot) :
    s.retire i = (s.purged i).noted i ((s.purged i).retiredIf i) ((s.purged i).record i) := by
  have h : ((s.purged i).record i).state = .retiring := by
    rw [s.record_purged_same]
    split <;> rfl
  exact (s.retire_eq i).trans (State.testRetired_of_retiring h)

end

end Sys2Proof.Machine
end

section
namespace Sys2Proof.Machine

/-! ### The notices of a record under each act (R22, R96 to R98) -/

/-- A change of a record that leaves its notices: the reasons and the failure cause are the same, and the state is, or moves
between service and HELD. -/
structure Record.SameNotices (r r' : Record) : Prop where
  reasons : r'.reasons = r.reasons
  failureCause : r'.failureCause = r.failureCause
  state : (r'.state = r.state ∧ (r.inboundCount = 0 → r'.inboundCount = 0)) ∨
    (r.state.isEnlisted = true ∧ r'.state.isEnlisted = true)

theorem Record.SameNotices.refl (r : Record) : r.SameNotices r := ⟨rfl, rfl, .inl ⟨rfl, id⟩⟩

theorem Lifecycle.isEnlisted_of_isInService {a : Lifecycle} (h : a.isInService = true) :
    a.isEnlisted = true := by
  cases a with
  | inService st => rfl
  | free => cases h
  | held st => cases h
  | retiring => cases h

theorem Record.Turns.sameNotices {r r' : Record} (h : r.Turns r') : r.SameNotices r' := by
  refine ⟨h.reasons, h.failureCause, ?_⟩
  obtain e | ⟨h1, h2⟩ := h.state
  · exact .inl ⟨e, fun h0 => h.inboundCount.trans h0⟩
  · exact .inr ⟨Lifecycle.isEnlisted_of_isInService h1, Lifecycle.isEnlisted_of_isInService h2⟩

theorem reasonIn_zero (r : Reason) : reasonIn 0 r = false := by
  simp [reasonIn]

theorem reasons_takenRecord (r : Record) : (takenRecord r).reasons = 0 := by
  unfold takenRecord
  split <;> rfl

section
variable {s t : State} {i : Slot}

/-- Every record's notices are as they were, and the attention list is. -/
structure SameNotices (s t : State) : Prop where
  records : ∀ j, (s.record j).SameNotices (t.record j)
  attention : t.attention = s.attention

theorem sameNotices_modRecord (f : Record → Record)
    (h : (s.record i).SameNotices (f (s.record i))) : SameNotices s (s.modRecord i f) := by
  refine ⟨fun j => ?_, rfl⟩
  rw [State.record_modRecord]
  split
  · next e => rw [e]; exact h
  · exact .refl _

theorem SameNotices.trans_records {u : State} (h : SameNotices s t) (hr : u.records = t.records)
    (ha : u.attention = t.attention) : SameNotices s u :=
  ⟨fun j => by rw [State.record_congr u t hr j]; exact h.records j, ha.trans h.attention⟩

theorem SameNotices.of_records (hr : t.records = s.records) (ha : t.attention = s.attention) :
    SameNotices s t :=
  ⟨fun j => by rw [State.record_congr t s hr j]; exact .refl _, ha⟩

theorem sameNotices_freeText : SameNotices s (s.freeText i) := by
  refine ⟨fun j => ?_, State.attention_freeText s i⟩
  by_cases h : j = i
  · subst h; rw [State.record_freeText_same]; exact ⟨rfl, rfl, .inl ⟨rfl, id⟩⟩
  · rw [State.record_freeText_ne _ _ _ h]; exact .refl _

theorem SameNotices.trans {u : State} (h : SameNotices s t) (h' : SameNotices t u)
    (hs : ∀ j, (u.record j).state = (t.record j).state)
    (hc : ∀ j, (u.record j).inboundCount = (t.record j).inboundCount) : SameNotices s u := by
  refine ⟨fun j => ⟨?_, ?_, ?_⟩, h'.attention.trans h.attention⟩
  · exact (h'.records j).reasons.trans (h.records j).reasons
  · exact (h'.records j).failureCause.trans (h.records j).failureCause
  · rw [hs, hc]; exact (h.records j).state

theorem records_applySent (b : BufferNo) : (s.applySent b).records = s.records := by
  unfold State.applySent
  split
  · split <;> rfl
  all_goals rfl

theorem attention_applySent (b : BufferNo) : (s.applySent b).attention = s.attention := by
  unfold State.applySent
  split
  · split <;> rfl
  all_goals rfl

/-- Every act leaves the notices, up to an RETIRED test, but admission, retirement and the end of an exchange. -/
theorem Act.notices (h : Act s t) :
    SameNotices s t ∨
    (∃ u i, SameNotices s u ∧ u.context = s.context ∧ t = u.testRetired i) ∨
    (∃ i, (s.record i).state = .free ∧ (t.record i).reasons = 0 ∧
      (t.record i).failureCause = .none ∧ (t.record i).state.isEnlisted = true ∧
      (∀ j, j ≠ i → t.record j = s.record j) ∧ t.attention = s.attention) ∨
    (∃ i, (s.record i).state.isEnlisted = true ∧ t = s.retire i) ∨
    (∃ u c i, s.context = some c ∧ c.exchange.slot? = some i ∧ Touches s.BaseWf i s u ∧
      t = u.endContext c.exchange) := by
  cases h with
  | idle => exact .inl ⟨fun _ => .refl _, rfl⟩
  | whollySent => exact .inl ⟨fun _ => .refl _, rfl⟩
  | turned i f _ _ hf _ => exact .inl (sameNotices_modRecord f hf.sameNotices)
  | readdressed i v k _ _ _ => exact .inl (sameNotices_modRecord _ ⟨rfl, rfl, .inl ⟨rfl, id⟩⟩)
  | cancelled i _ _ =>
    refine .inl ?_
    unfold State.cancelFilled
    split
    · exact sameNotices_freeText
    · refine sameNotices_freeText.trans (sameNotices_modRecord _ ⟨rfl, rfl, .inl ⟨rfl, id⟩⟩) ?_ ?_
      all_goals
        intro j
        rw [State.setResync, State.record_modRecord]
        split
        · next e => rw [e]
        · rfl
  | entered i a g q _ _ _ hi =>
    have hfree := (find_finRange_eq_some _ _).mp hi
    refine .inr (.inr (.inl ⟨i, by simpa using hfree.1, ?_⟩))
    have ht : ∀ u : State, (u.appendUrgent i).records = u.records := fun u => by
      unfold State.appendUrgent; split <;> rfl
    have ha : ∀ u : State, (u.appendUrgent i).attention = u.attention := fun u => by
      unfold State.appendUrgent; split <;> rfl
    have hr := State.record_congr _ _ (ht (s.setRecord i (admittedRecord a g q)))
    rw [hr, State.record_setRecord_same]
    refine ⟨rfl, rfl, rfl, fun j hj => ?_, ha _⟩
    rw [hr, State.record_setRecord_ne _ _ _ _ hj]
  | held i st hs =>
    exact .inl ((sameNotices_modRecord (i := i) (fun r => { r with state := .held st })
      ⟨rfl, rfl, .inr ⟨by rw [hs]; rfl, rfl⟩⟩).trans_records rfl rfl)
  | releasedActive i st hs =>
    exact .inl (sameNotices_modRecord _ ⟨rfl, rfl, .inr ⟨by rw [hs]; rfl, rfl⟩⟩)
  | releasedLost i st hs =>
    exact .inl (sameNotices_modRecord _ ⟨rfl, rfl, .inr ⟨by rw [hs]; rfl, rfl⟩⟩)
  | releasedStaged i st hs =>
    refine .inl ((sameNotices_modRecord (i := i) (fun r => { r with state := .inService .staged })
      ⟨rfl, rfl, .inr ⟨by rw [hs]; rfl, rfl⟩⟩).trans_records ?_ ?_)
    all_goals unfold State.appendUrgent; split <;> rfl
  | retired i hs => exact .inr (.inr (.inr (.inl ⟨i, hs, rfl⟩)))
  | ringInserted i p _ _ _ _ =>
    exact .inl ((sameNotices_modRecord (i := i) (fun r => { r with ringCount := r.ringCount + 1 })
      ⟨rfl, rfl, .inl ⟨rfl, id⟩⟩).trans_records rfl rfl)
  | ringRemoved i p _ =>
    exact .inl ((sameNotices_modRecord (i := i) (fun r => { r with ringCount := r.ringCount - 1 })
      ⟨rfl, rfl, .inl ⟨rfl, id⟩⟩).trans_records rfl rfl)
  | pollQueued i _ _ _ => exact .inl (.of_records rfl rfl)
  | textQueued i b _ _ _ _ =>
    exact .inl ((sameNotices_modRecord (i := i)
      (fun r => { r with outboundText := some b, retryCount := 0, cancelRequested := false })
      ⟨rfl, rfl, .inl ⟨rfl, id⟩⟩).trans_records rfl rfl)
  | groupQueued a b _ _ _ => exact .inl (.of_records rfl rfl)
  | cursorMoved n _ => exact .inl (.of_records rfl rfl)
  | inboundReleased x rest _ =>
    refine .inr (.inl ⟨s.dropInbound x rest, x.slot, ?_, rfl, rfl⟩)
    exact (sameNotices_modRecord (i := x.slot)
      (fun r => { r with inboundCount := r.inboundCount - 1 })
      ⟨rfl, rfl, .inl ⟨rfl, fun h => by rw [h]⟩⟩).trans_records rfl rfl
  | passed h =>
    obtain ⟨_, _, _, _, _, rfl, _⟩ := h
    exact .inl (.of_records rfl rfl)
  | began x h _ _ =>
    obtain ⟨_, _, _, _, _, rfl, _⟩ := h
    exact .inl (.of_records rfl rfl)
  | ended c i hc hi h _ => exact .inr (.inr (.inr (.inr ⟨_, c, i, hc, hi, h, rfl⟩)))
  | dropped c b _ _ => exact .inl (.of_records rfl rfl)
  | sent c b _ _ => exact .inl (.of_records (records_applySent b) (attention_applySent b))

/-- No act names in a new context a slot that is not in service. -/
theorem Act.contextNames (h : Act s t) (j : Slot) (hj : t.contextNames j = true) :
    s.contextNames j = true ∨ (s.record j).state.isInService = true := by
  cases h with
  | whollySent =>
    refine .inl ?_
    cases hc : s.context with
    | none => simp [State.contextNames, hc] at hj
    | some c => simpa [State.contextNames, hc] using hj
  | cancelled i _ _ =>
    refine .inl ?_
    unfold State.cancelFilled at hj
    split at hj <;> (obtain ⟨_, _, _, _, _, _, _, e⟩ := slotFrame_freeText s i; rw [e] at hj; exact hj)
  | entered i a g q _ _ _ _ =>
    refine .inl ?_
    unfold State.appendUrgent at hj
    split at hj <;> exact hj
  | releasedStaged i st _ =>
    refine .inl ?_
    unfold State.appendUrgent at hj
    split at hj <;> exact hj
  | retired i _ =>
    refine .inl ?_
    rw [State.retire_eq_noted] at hj
    obtain ⟨_, _, _, _, _, _, _, e⟩ := s.purged_frame i
    obtain ⟨_, _, _, _, _, _, _, e'⟩ :=
      (s.purged i).noted_frame i ((s.purged i).retiredIf i) ((s.purged i).record i)
    rw [e', e] at hj
    exact hj
  | inboundReleased x rest _ =>
    rw [State.testRetired_frame] at hj
    exact .inl hj
  | passed h =>
    obtain ⟨_, _, _, _, _, rfl, _⟩ := h
    exact .inl hj
  | began x h _ hx =>
    obtain ⟨_, _, _, _, _, rfl, _⟩ := h
    refine .inr (hx.1 j ?_)
    cases x <;> simpa [State.contextNames, State.beginExchange, State.composeContext] using hj
  | ended c i _ hi _ _ =>
    have : ∀ u : State, (u.endContext c.exchange).context = none := fun u => by
      simp only [State.endContext, hi]
      rw [State.testRetired_frame]
    simp [State.contextNames, this] at hj
  | dropped c b _ _ => simp [State.contextNames] at hj
  | sent c b _ _ => simp [State.contextNames] at hj
  | _ => exact .inl hj

/-! ### RETIRED (R22) -/

/-- A RETIRED test keeps RETIRED to records whose condition holds. -/
theorem retiredWf_testRetired (h : s.RetiredWf) : (s.testRetired i).RetiredWf := by
  intro j hj
  have hn : (s.testRetired i).contextNames j = s.contextNames j := by
    rw [State.testRetired_frame]; rfl
  by_cases e : j = i
  · subst e
    rw [State.record_testRetired_same, hn]
    by_cases hc : (s.record j).state = .retiring ∧ (s.record j).inboundCount = 0 ∧
        s.contextNames j = false
    · exact hc
    · have : s.testRetired j = s := if_neg hc
      rw [this] at hj
      exact h j hj
  · rw [State.record_testRetired_ne _ _ _ e] at hj ⊢
    rw [hn]
    exact h j hj

theorem retiredWf_of_sameNotices (h : s.RetiredWf) (hn : SameNotices s t)
    (hc : ∀ j, t.contextNames j = true →
      s.contextNames j = true ∨ (s.record j).state.isInService = true) : t.RetiredWf := by
  intro j hj
  have hr := hn.records j
  rw [hr.reasons] at hj
  obtain ⟨h1, h2, h3⟩ := h j hj
  refine ⟨?_, ?_, ?_⟩
  · obtain ⟨e, _⟩ | ⟨e, _⟩ := hr.state
    · rw [e, h1]
    · rw [h1] at e; cases e
  · obtain ⟨_, e⟩ | ⟨e, _⟩ := hr.state
    · exact e h2
    · rw [h1] at e; cases e
  · by_contra hcn
    obtain e | e := hc j (by simpa using hcn)
    · rw [h3] at e; cases e
    · rw [h1] at e; cases e

/-- Operations on one record raise anything but RETIRED. -/
theorem Touches.retired {G : Prop} (h : Touches G i s t) :
    reasonIn (t.record i).reasons .retired = reasonIn (s.record i).reasons .retired := by
  induction h with
  | refl => rfl
  | turn f _ ht _ ih => rw [State.record_modRecord_same, ht.reasons, ih]
  | raise r _ hr _ ih =>
    rw [State.record_raise_same]
    simp only
    split
    · rw [reasonIn_reasonAdd_ne _ _ _ (Ne.symm hr), ih]
    · exact ih
  | raiseFailed c _ _ ih =>
    rw [State.record_raiseFailed_same]
    split
    · rw [reasonIn_reasonAdd_ne _ _ _ (by simp), ih]
    · exact ih
  | freeText _ ih => rw [State.record_freeText_same]; exact ih
  | returnText _ _ ih => rw [State.record_returnText]; exact ih
  | store a x _ _ _ ih => rw [State.record_storeInbound_same]; exact ih
  | follow o _ ih => exact ih

theorem endContext_of_slot (u : State) (x : Exchange) (h : x.slot? = some i) :
    u.endContext x = { u with context := none }.testRetired i := by
  simp [State.endContext, h]

/-- The RETIRED reason stands for its condition (R22), whatever happens. -/
theorem retiredLaw : LedgerLaw State.RetiredWf where
  congr {s t} hs h := by
    have hr : t.records = s.records := congrArg Ledger.records h
    have hc : t.context = s.context := congrArg Ledger.context h
    exact retiredWf_of_sameNotices hs (.of_records hr (congrArg Ledger.attention h)) fun j hj =>
      .inl (by simpa [State.contextNames, hc] using hj)
  act {s t} h hs := by
    have hc := h.contextNames
    obtain hn | ⟨u, i, hn, hu, rfl⟩ | ⟨i, _, h0, _, he, hj, _⟩ | ⟨i, hi, rfl⟩ |
      ⟨u, c, i, hcx, hsl, ht, rfl⟩ := h.notices
    · exact retiredWf_of_sameNotices hs hn hc
    · refine retiredWf_testRetired (retiredWf_of_sameNotices hs hn fun j hj => .inl ?_)
      simpa [State.contextNames, hu] using hj
    · intro j hj'
      by_cases e : j = i
      · subst e; rw [h0] at hj'; cases hj'
      · have hrj := hj j e
        rw [hrj] at hj' ⊢
        obtain ⟨h1, h2, h3⟩ := hs j hj'
        refine ⟨h1, h2, ?_⟩
        by_contra hcn
        obtain e | e := hc j (by simpa using hcn)
        · rw [h3] at e; cases e
        · rw [h1] at e; cases e
    · rw [State.retire_eq]
      refine retiredWf_testRetired (s := s.purged i) fun j hj => ?_
      by_cases e : j = i
      · subst e
        rw [State.reasons_purged, reasonIn_zero] at hj
        cases hj
      · rw [State.record_purged_ne _ _ _ e] at hj ⊢
        obtain ⟨_, _, _, _, _, _, _, e'⟩ := s.purged_frame i
        rw [e']
        exact hs j hj
    · rw [endContext_of_slot _ _ hsl]
      refine retiredWf_testRetired fun j hj => ?_
      have hrec : ({ u with context := none } : State).record j = u.record j := rfl
      rw [hrec] at hj ⊢
      by_cases e : j = i
      · subst e
        rw [ht.retired] at hj
        have hnamed : s.contextNames j = true := by simp [State.contextNames, hcx, hsl]
        rw [(hs j hj).2.2] at hnamed
        cases hnamed
      · rw [ht.record_ne e] at hj ⊢
        obtain ⟨h1, h2, _⟩ := hs j hj
        exact ⟨h1, h2, rfl⟩
  taken {s i rest} _ hs := by
    intro j hj
    have hr := State.record_congr { s.setRecord i (takenRecord (s.record i)) with attention := rest }
      (s.setRecord i (takenRecord (s.record i))) rfl j
    rw [hr, State.record_setRecord] at hj ⊢
    split at hj
    · rw [reasons_takenRecord, reasonIn_zero] at hj
      cases hj
    · next e => rw [if_neg e]; exact hs j hj
  emptied {s} _ := by
    intro j hj
    have : s.emptyTable.record j = Record.free := by simp [State.record, State.emptyTable]
    rw [this] at hj; cases hj
  reset := by
    intro j hj
    have : State.reset.record j = Record.free := by simp [State.record, State.reset]
    rw [this] at hj; cases hj

end

end Sys2Proof.Machine
end

section
namespace Sys2Proof.Machine

/-! ### The attention list (R96 to R98) -/

/-- The reasons and the failure cause of a record in keeping with each other and with its state (R2, R22, R96). -/
structure Record.Noticed (r : Record) : Prop where
  cause : r.failureCause = .none ↔ reasonIn r.reasons .failed = false
  free : r.state = .free → r.reasons = 0
  retiring : r.state = .retiring → r.reasons = 0 ∨ r.reasons = reasonAdd 0 .retired

section
variable {s t : State} {i : Slot}

theorem attentionWf_iff : s.AttentionWf ↔
    s.attention.Nodup ∧ ∀ i, (i ∈ s.attention ↔ (s.record i).reasons ≠ 0) ∧
      (s.record i).Noticed := by
  constructor
  · rintro ⟨hn, hm, hc, hf, hr⟩
    exact ⟨hn, fun i => ⟨hm i, hc i, hf i, hr i⟩⟩
  · rintro ⟨hn, h⟩
    exact ⟨hn, fun i => (h i).1, fun i => (h i).2.cause, fun i => (h i).2.free,
      fun i => (h i).2.retiring⟩

theorem Record.SameNotices.noticed {r r' : Record} (h : r.SameNotices r') (hr : r.Noticed) :
    r'.Noticed := by
  refine ⟨?_, fun hf => ?_, fun hf => ?_⟩
  · rw [h.reasons, h.failureCause]; exact hr.cause
  · rw [h.reasons]
    obtain ⟨e, _⟩ | ⟨_, e⟩ := h.state
    · exact hr.free (e ▸ hf)
    · rw [hf] at e; cases e
  · rw [h.reasons]
    obtain ⟨e, _⟩ | ⟨_, e⟩ := h.state
    · exact hr.retiring (e ▸ hf)
    · rw [hf] at e; cases e

theorem attentionWf_of_sameNotices (h : s.AttentionWf) (hn : SameNotices s t) :
    t.AttentionWf := by
  rw [attentionWf_iff] at h ⊢
  obtain ⟨hd, h⟩ := h
  rw [hn.attention]
  refine ⟨hd, fun j => ⟨?_, (hn.records j).noticed (h j).2⟩⟩
  rw [(hn.records j).reasons]
  exact (h j).1

/-- A reason noted for a slot, into an empty set with an append to the list (R98). -/
theorem attentionWf_of_raised (h : s.AttentionWf) (hj : ∀ j, j ≠ i → t.record j = s.record j)
    (ha : t.attention = if (s.record i).reasons = 0 then s.attention ++ [i] else s.attention)
    (h0 : (t.record i).reasons ≠ 0) (hi : (t.record i).Noticed) : t.AttentionWf := by
  rw [attentionWf_iff] at h ⊢
  obtain ⟨hd, h⟩ := h
  rw [ha]
  have hm : ∀ j, j ∈ (if (s.record i).reasons = 0 then s.attention ++ [i] else s.attention) ↔
      j ∈ s.attention ∨ j = i := by
    intro j
    split
    · simp
    · next hne =>
      constructor
      · exact .inl
      · rintro (e | rfl)
        · exact e
        · exact (h j).1.mpr hne
  refine ⟨?_, fun j => ?_⟩
  · split
    · next e =>
      have hni : i ∉ s.attention := fun hmem => (h i).1.mp hmem e
      exact List.nodup_append.mpr ⟨hd, by simp, by
        rintro a ha b hb rfl
        rw [List.mem_singleton.mp hb] at ha
        exact hni ha⟩
    · exact hd
  · by_cases e : j = i
    · subst e
      exact ⟨(hm j).trans ⟨fun _ => h0, fun _ => .inr rfl⟩, hi⟩
    · rw [hm, hj j e]
      exact ⟨⟨fun hor => (h j).1.mp (hor.resolve_right e), fun hr => .inl ((h j).1.mpr hr)⟩, (h j).2⟩

theorem mayRaise_retiring {r : Reason} (h : mayRaise .retiring r = true) : r = .retired := by
  simpa [mayRaise] using h

theorem noticed_raise (r : Reason) (hm : mayRaise (s.record i).state r = true)
    (hn : (s.record i).Noticed) (x : Record) (hs : x.state = (s.record i).state)
    (hr : x.reasons = reasonAdd (s.record i).reasons r)
    (hc : x.failureCause = .none ↔ reasonIn x.reasons .failed = false) : x.Noticed := by
  refine ⟨hc, fun hf => ?_, fun hf => ?_⟩
  · rw [hs] at hf; rw [hf] at hm; cases hm
  · rw [hs] at hf
    rw [hf] at hm
    obtain rfl := mayRaise_retiring hm
    rw [hr]
    obtain e | e := hn.retiring hf
    · exact .inr (by rw [e])
    · exact .inr (by rw [e]; rfl)

theorem attention_raise_of_mayRaise (r : Reason) (hm : mayRaise (s.record i).state r = true) :
    (s.raise i r).attention =
      if (s.record i).reasons = 0 then s.attention ++ [i] else s.attention := by
  rw [State.raise_of_mayRaise _ _ _ hm]

theorem attentionWf_raise (r : Reason) (hr : r ≠ .failed) (h : s.AttentionWf) :
    (s.raise i r).AttentionWf := by
  cases hm : mayRaise (s.record i).state r with
  | false => rw [State.raise_of_not_mayRaise _ _ _ hm]; exact h
  | true =>
    have hn := ((attentionWf_iff.mp h).2 i).2
    have hrec := State.record_raise_same s i r
    rw [if_pos hm] at hrec
    refine attentionWf_of_raised h (fun j hj => State.record_raise_ne _ _ _ _ hj)
      (attention_raise_of_mayRaise r hm) ?_ ?_
    · rw [hrec]; exact reasonAdd_ne_zero _ _
    · rw [hrec]
      refine noticed_raise r hm hn _ rfl rfl ?_
      rw [reasonIn_reasonAdd_ne _ _ _ (Ne.symm hr)]
      exact hn.cause

theorem attentionWf_raiseFailed (c : FailureCause) (hc : c ≠ .none) (h : s.AttentionWf) :
    (s.raiseFailed i c).AttentionWf := by
  cases hm : mayRaise (s.record i).state .failed with
  | false => rw [State.raiseFailed_of_not_mayRaise _ _ _ hm]; exact h
  | true =>
    have hn := ((attentionWf_iff.mp h).2 i).2
    have hrec := State.record_raiseFailed_same s i c
    rw [if_pos hm] at hrec
    refine attentionWf_of_raised h (fun j hj => State.record_raiseFailed_ne _ _ _ _ hj) ?_ ?_ ?_
    · rw [State.raiseFailed_of_mayRaise _ _ _ hm]
      exact attention_raise_of_mayRaise _ hm
    · rw [hrec]; exact reasonAdd_ne_zero _ _
    · rw [hrec]
      refine noticed_raise .failed hm hn _ rfl rfl ?_
      rw [reasonIn_reasonAdd_same]
      simp [hc]

theorem attentionWf_testRetired (h : s.AttentionWf) : (s.testRetired i).AttentionWf := by
  unfold State.testRetired
  split
  · exact attentionWf_raise _ (by simp) h
  · exact h

theorem Touches.attentionWf {G : Prop} (h : Touches G i s t) (hs : s.AttentionWf) :
    t.AttentionWf := by
  induction h with
  | refl => exact hs
  | turn f _ ht _ ih => exact attentionWf_of_sameNotices ih (sameNotices_modRecord f ht.sameNotices)
  | raise r _ _ hf ih => exact attentionWf_raise r hf ih
  | raiseFailed c _ hc ih => exact attentionWf_raiseFailed c hc ih
  | freeText _ ih => exact attentionWf_of_sameNotices ih sameNotices_freeText
  | returnText _ _ ih =>
    refine attentionWf_of_sameNotices ih ⟨fun j => ?_, by rw [State.returnText_frame]⟩
    rw [State.record_returnText]; exact .refl _
  | @store t a x _ hn _ ih =>
    rw [attentionWf_iff] at ih ⊢
    refine ⟨ih.1, fun j => ?_⟩
    obtain ⟨hm, hj⟩ := ih.2 j
    have ha : (t.storeInbound i a x).attention = t.attention := rfl
    rw [ha]
    by_cases e : j = i
    · subst e
      rw [State.record_storeInbound_same]
      exact ⟨hm, hj.cause, hj.free, hj.retiring⟩
    · rw [State.record_storeInbound_ne _ _ _ _ _ e]
      exact ⟨hm, hj⟩
  | follow o _ ih => exact ih

/-- A slot whose set is emptied is taken off the list (R99). -/
theorem attentionWf_of_emptied (h : s.AttentionWf) (hj : ∀ j, j ≠ i → t.record j = s.record j)
    (ha : t.attention = s.attention.filter (· != i)) (h0 : (t.record i).reasons = 0)
    (hc : (t.record i).failureCause = .none) : t.AttentionWf := by
  rw [attentionWf_iff] at h ⊢
  obtain ⟨hd, h⟩ := h
  rw [ha]
  refine ⟨hd.filter _, fun j => ?_⟩
  by_cases e : j = i
  · subst e
    refine ⟨by simp [h0], ?_, fun _ => h0, fun _ => .inl h0⟩
    rw [h0, hc]
    exact ⟨fun _ => reasonIn_zero _, fun _ => rfl⟩
  · rw [hj j e]
    refine ⟨?_, (h j).2⟩
    rw [List.mem_filter]
    simpa [e] using (h j).1

theorem failureCause_takenRecord (r : Record) : (takenRecord r).failureCause = .none := by
  unfold takenRecord
  split <;> rfl

theorem failureCause_purged : ((s.purged i).record i).failureCause = .none := by
  rw [State.record_purged_same]
  split <;> rfl

theorem attentionWf_of_free (hr : ∀ j, t.record j = Record.free) (ha : t.attention = []) :
    t.AttentionWf := by
  rw [attentionWf_iff, ha]
  refine ⟨List.nodup_nil, fun j => ?_⟩
  rw [hr j]
  exact ⟨by simp [Record.free], by decide, fun _ => rfl, fun _ => .inl rfl⟩

theorem record_emptyTable (j : Slot) : s.emptyTable.record j = Record.free := by
  simp [State.record, State.emptyTable]

theorem record_reset (j : Slot) : State.reset.record j = Record.free := by
  simp [State.record, State.reset]

/-- The attention list and the reason sets agree, whatever happens (R97, R98). -/
theorem attentionLaw : LedgerLaw State.AttentionWf where
  congr hs h := attentionWf_of_sameNotices hs
    (.of_records (congrArg Ledger.records h) (congrArg Ledger.attention h))
  act {s t} h hs := by
    obtain hn | ⟨u, i, hn, _, rfl⟩ | ⟨i, hf, h0, hc, he, hj, ha⟩ | ⟨i, _, rfl⟩ |
      ⟨u, c, i, _, hsl, ht, rfl⟩ := h.notices
    · exact attentionWf_of_sameNotices hs hn
    · exact attentionWf_testRetired (attentionWf_of_sameNotices hs hn)
    · obtain ⟨_, hw⟩ := attentionWf_iff.mp hs
      have hni : i ∉ s.attention := fun hm => (hw i).1.mp hm ((hw i).2.free hf)
      refine attentionWf_of_emptied hs hj ?_ h0 hc
      rw [ha, List.filter_eq_self.mpr]
      intro j hm
      simpa using fun e : j = i => hni (e ▸ hm)
    · rw [State.retire_eq]
      exact attentionWf_testRetired (s := s.purged i) (attentionWf_of_emptied hs
        (fun j hj => State.record_purged_ne s i j hj) (State.attention_purged s i)
        (State.reasons_purged s i) failureCause_purged)
    · rw [endContext_of_slot _ _ hsl]
      exact attentionWf_testRetired (attentionWf_of_sameNotices (ht.attentionWf hs)
        (.of_records rfl rfl))
  taken {s i rest} h hs := by
    have hd := (attentionWf_iff.mp hs).1
    have hr := State.record_congr { s.setRecord i (takenRecord (s.record i)) with attention := rest }
      (s.setRecord i (takenRecord (s.record i))) rfl
    refine attentionWf_of_emptied (i := i) hs (fun j hj => ?_) ?_ ?_ ?_
    · rw [hr, State.record_setRecord_ne _ _ _ _ hj]
    · rw [h] at hd ⊢
      have hni : i ∉ rest := (List.nodup_cons.mp hd).1
      have : rest.filter (· != i) = rest :=
        List.filter_eq_self.mpr fun j hj => by simpa using fun e : j = i => hni (e ▸ hj)
      simp [this]
    · rw [hr, State.record_setRecord_same, reasons_takenRecord]
    · rw [hr, State.record_setRecord_same, failureCause_takenRecord]
  emptied _ := attentionWf_of_free record_emptyTable rfl
  reset := attentionWf_of_free record_reset rfl

end

/-- Settles O10: the two invariants are laws of the ledger, each kept by every act on it. -/
theorem attentionListMatchesTheReasons : Obligations.AttentionListMatchesTheReasons :=
  fun _ _ hr ha h => ⟨retiredLaw.step h hr, attentionLaw.step h ha⟩

end Sys2Proof.Machine
end

section
namespace Sys2Proof.Machine

/-! ### The Poll Ring and the urgent list (R7, R27, R34, R37) -/

/-- What a record's place in the ring and the urgent list turns on is kept: the ring count, or 0 for a record newly in use,
and that the station is in use and in service. -/
structure Record.Stands (r r' : Record) : Prop where
  ringCount : r'.ringCount = r.ringCount ∨ (r.state = .free ∧ r'.ringCount = 0)
  isEnlisted : r.state.isEnlisted = true → r'.state.isEnlisted = true
  isInService : r.state.isInService = true → r'.state.isInService = true

theorem Record.Stands.refl (r : Record) : r.Stands r := ⟨.inl rfl, id, id⟩

theorem Lifecycle.Near.isEnlisted {a b : Lifecycle} (h : a.Near b) (ha : a.isEnlisted = true) :
    b.isEnlisted = true := by
  obtain rfl | ⟨_, hb⟩ := h
  · exact ha
  · exact Lifecycle.isEnlisted_of_isInService hb

theorem Record.Keeps.stands {r r' : Record} (h : r.Keeps r') : r.Stands r' :=
  ⟨.inl h.ringCount, h.state.isEnlisted, fun hs => h.state.isInService.trans hs⟩

/-- An act that edits neither list but by entries taken off the urgent list's head or one station appended to it. -/
structure Stands (s t : State) : Prop where
  records : ∀ j, (s.record j).Stands (t.record j)
  ring : t.ring = s.ring
  cursor : t.ringCursor = s.ringCursor ∨ t.ringCursor < s.ring.length
  urgent : t.urgent <:+ s.urgent ∨
    ∃ i, (t.record i).state.isInService = true ∧
      (i ∉ s.urgent ∨ (s.record i).state.isInService = false) ∧ s.urgent.length < 4 ∧
      t.urgent = s.urgent ++ [i]

section
variable {s t : State} {i : Slot}

theorem Stands.of_records (h : ∀ j, (s.record j).Stands (t.record j)) (hr : t.ring = s.ring)
    (hc : t.ringCursor = s.ringCursor) (hu : t.urgent = s.urgent) : Stands s t :=
  ⟨h, hr, .inl hc, .inl (by rw [hu])⟩

theorem stands_modRecord (f : Record → Record) (h : (s.record i).Stands (f (s.record i))) :
    Stands s (s.modRecord i f) := by
  refine .of_records (fun j => ?_) rfl rfl rfl
  rw [State.record_modRecord]
  split
  · next e => rw [e]; exact h
  · exact .refl _

theorem Stands.congr {u : State} (h : Stands s t) (hr : u.records = t.records)
    (hl : (u.ring, u.ringCursor, u.urgent) = (t.ring, t.ringCursor, t.urgent)) : Stands s u := by
  simp only [Prod.mk.injEq] at hl
  obtain ⟨h1, h2, h3⟩ := hl
  have hrec := State.record_congr u t hr
  refine ⟨fun j => by rw [hrec]; exact h.records j, h1.trans h.ring, by rw [h2]; exact h.cursor, ?_⟩
  rw [h3]
  simpa only [hrec] using h.urgent

/-- The records of a state whose table is another's with one record changed. -/
theorem record_of_records {f : Record → Record} (h : t.records = (s.modRecord i f).records) :
    t.record i = f (s.record i) ∧ ∀ j, j ≠ i → t.record j = s.record j := by
  have hr := State.record_congr t _ h
  exact ⟨(hr i).trans (s.record_modRecord_same i f),
    fun j hj => (hr j).trans (s.record_modRecord_ne i j f hj)⟩

theorem Touches.stands {G : Prop} (h : Touches G i s t) : Stands s t := by
  obtain ⟨_, _, _, _, _, _, _, e⟩ := h.frame
  refine .of_records (fun j => ?_) (by rw [e]) (by rw [e]) (by rw [e])
  by_cases hj : j = i
  · subst hj; exact h.keeps.stands
  · rw [h.record_ne hj]; exact .refl _

theorem Stands.testRetired (h : Stands s t) : Stands s (t.testRetired i) := by
  have hrec : ∀ j, ((t.testRetired i).record j).state = (t.record j).state ∧
      ((t.testRetired i).record j).ringCount = (t.record j).ringCount := by
    intro j
    by_cases e : j = i
    · subst e; rw [State.record_testRetired_same]; exact ⟨rfl, rfl⟩
    · rw [State.record_testRetired_ne _ _ _ e]; exact ⟨rfl, rfl⟩
  obtain ⟨_, _, _, _, _, _, _, e⟩ := slotFrame_testRetired t i
  refine ⟨fun j => ?_, ?_, ?_, ?_⟩
  · obtain ⟨hs, hc⟩ := hrec j
    refine ⟨?_, ?_, ?_⟩
    · rw [hc]; exact (h.records j).ringCount
    · rw [hs]; exact (h.records j).isEnlisted
    · rw [hs]; exact (h.records j).isInService
  · rw [e]; exact h.ring
  · rw [e]; exact h.cursor
  · rw [show (t.testRetired i).urgent = t.urgent by rw [e]]
    obtain hu | ⟨j, hj, h'⟩ := h.urgent
    · exact .inl hu
    · exact .inr ⟨j, by rw [(hrec j).1]; exact hj, h'⟩

/-- A record brought into service is appended to the urgent list if there is room (R35). -/
theorem stands_appendUrgent (h : Stands s t) (hu : t.urgent = s.urgent)
    (hi : (t.record i).state.isInService = true) (hs : (s.record i).state.isInService = false) :
    Stands s (t.appendUrgent i) := by
  unfold State.appendUrgent
  split
  · next hl =>
    exact ⟨h.records, h.ring, h.cursor, .inr ⟨i, hi, .inr hs, by rw [← hu]; exact hl, by rw [hu]⟩⟩
  · exact h

theorem lists_applySent (b : BufferNo) :
    ((s.applySent b).ring, (s.applySent b).ringCursor, (s.applySent b).urgent) =
      (s.ring, s.ringCursor, s.urgent) := by
  unfold State.applySent
  split
  · split <;> rfl
  all_goals rfl

/-- Every act keeps the standings and edits the lists at most at the urgent list's ends, but HOLD STATION, RETIRE STATION and
the two ring edits. -/
theorem Act.stands (h : Act s t) :
    Stands s t ∨
    (∃ i st, (s.record i).state = .inService st ∧
      t = (s.modRecord i fun r => { r with state := .held st }).removeUrgent i) ∨
    (∃ i, (s.record i).state.isEnlisted = true ∧ t = s.retire i) ∨
    (∃ i p, (s.record i).state.isEnlisted = true ∧ p ≤ s.ring.length ∧ s.ring.length < 64 ∧
      (s.record i).ringCount < 4 ∧
      t = { s.modRecord i fun r => { r with ringCount := r.ringCount + 1 } with
        ring := s.ring.take p ++ i :: s.ring.drop p
        ringCursor := cursorAfterInsert s.ring.length p s.ringCursor }) ∨
    (∃ i p, s.ring[p]? = some i ∧
      t = { s.modRecord i fun r => { r with ringCount := r.ringCount - 1 } with
        ring := (removeEntry (s.ring, s.ringCursor) p).1
        ringCursor := (removeEntry (s.ring, s.ringCursor) p).2 }) := by
  have hsame : Stands s s := .of_records (fun _ => .refl _) rfl rfl rfl
  cases h with
  | idle => exact .inl hsame
  | whollySent => exact .inl (hsame.congr rfl rfl)
  | turned i f _ _ hf _ => exact .inl (stands_modRecord f hf.keeps.stands)
  | readdressed i v k _ _ _ => exact .inl (stands_modRecord _ ⟨.inl rfl, id, id⟩)
  | cancelled i _ _ =>
    have h : Touches False i s (s.freeText i) := .freeText .refl
    refine .inl ?_
    unfold State.cancelFilled
    split
    · exact h.stands
    · exact h.setResync.stands
  | entered i a g q _ _ _ hi =>
    have hfree : (s.record i).state = .free := by
      simpa using ((find_finRange_eq_some _ _).mp hi).1
    refine .inl (stands_appendUrgent (.of_records (fun j => ?_) rfl rfl rfl) rfl ?_ ?_)
    · rw [State.record_setRecord]
      split
      · next e => rw [e]; exact ⟨.inr ⟨hfree, rfl⟩, fun _ => rfl, fun _ => rfl⟩
      · exact .refl _
    · rw [State.record_setRecord_same]; rfl
    · rw [hfree]; rfl
  | held i st hs => exact .inr (.inl ⟨i, st, hs, rfl⟩)
  | releasedActive i st hs =>
    exact .inl (stands_modRecord _ ⟨.inl rfl, fun _ => rfl, fun _ => rfl⟩)
  | releasedLost i st hs =>
    exact .inl (stands_modRecord _ ⟨.inl rfl, fun _ => rfl, fun _ => rfl⟩)
  | releasedStaged i st hs =>
    refine .inl (stands_appendUrgent
      (stands_modRecord _ ⟨.inl rfl, fun _ => rfl, fun _ => rfl⟩) rfl ?_ (by rw [hs]; rfl))
    rw [State.record_modRecord_same]; rfl
  | retired i hs => exact .inr (.inr (.inl ⟨i, hs, rfl⟩))
  | ringInserted i p hs hp hl hc => exact .inr (.inr (.inr (.inl ⟨i, p, hs, hp, hl, hc, rfl⟩)))
  | ringRemoved i p hp => exact .inr (.inr (.inr (.inr ⟨i, p, hp, rfl⟩)))
  | pollQueued i hs hi hl =>
    exact .inl ⟨hsame.records, rfl, .inl rfl, .inr ⟨i, hs, .inl hi, hl, rfl⟩⟩
  | textQueued i b _ _ _ _ =>
    exact .inl ((stands_modRecord (i := i)
      (fun r => { r with outboundText := some b, retryCount := 0, cancelRequested := false })
      ⟨.inl rfl, id, id⟩).congr rfl rfl)
  | groupQueued a b _ _ _ => exact .inl (hsame.congr rfl rfl)
  | cursorMoved n _ => exact .inl (hsame.congr rfl rfl)
  | inboundReleased x rest _ =>
    refine .inl (Stands.testRetired (Stands.congr (stands_modRecord (i := x.slot)
      (fun r => { r with inboundCount := r.inboundCount - 1 }) ⟨.inl rfl, id, id⟩) rfl rfl))
  | passed h =>
    obtain ⟨_, u, _, _, rc, rfl, _, hu, _, hr⟩ := h
    exact .inl ⟨hsame.records, rfl, hr, .inl hu⟩
  | began x h _ _ =>
    obtain ⟨_, u, _, _, rc, rfl, _, hu, _, hr⟩ := h
    exact .inl ⟨hsame.records, rfl, hr, .inl hu⟩
  | ended c i _ hi h _ =>
    rw [endContext_of_slot _ _ hi]
    exact .inl (Stands.testRetired (h.stands.congr rfl rfl))
  | dropped c b _ _ => exact .inl (hsame.congr rfl rfl)
  | sent c b _ _ => exact .inl (hsame.congr (records_applySent b) (lists_applySent b))

theorem Lifecycle.isEnlisted_iff (a : Lifecycle) :
    a.isEnlisted = true ↔ a ≠ .free ∧ a ≠ .retiring := by
  cases a <;> simp [Lifecycle.isEnlisted]

theorem ringCount_of_free (h : s.RingWf) (hi : (s.record i).state = .free) :
    (s.record i).ringCount = 0 := by
  obtain ⟨_, _, _, hc, hs⟩ := h
  rw [(hc i).1, List.count_eq_zero]
  exact fun hm => (hs i hm).1 hi

theorem ringWf_of_same (hs : s.RingWf) (hr : t.ring = s.ring)
    (hcur : t.ringCursor = s.ringCursor ∨ t.ringCursor < s.ring.length)
    (hrc : ∀ j, (t.record j).ringCount = (s.record j).ringCount ∨
      ((s.record j).state = .free ∧ (t.record j).ringCount = 0))
    (hen : ∀ j, (s.record j).state.isEnlisted = true → (t.record j).state.isEnlisted = true) :
    t.RingWf := by
  have hfree := fun i => ringCount_of_free (i := i) hs
  obtain ⟨hl, hn, he, hc, hst⟩ := hs
  rw [State.RingWf, hr]
  refine ⟨hl, fun hne => ?_, fun hnil => ?_, fun j => ?_, fun j hj => ?_⟩
  · obtain e | e := hcur
    · rw [e]; exact hn hne
    · exact e
  · obtain e | e := hcur
    · rw [e]; exact he hnil
    · rw [hnil] at e; simp at e
  · have hj : (t.record j).ringCount = (s.record j).ringCount := by
      obtain e | ⟨hf, e⟩ := hrc j
      · exact e
      · rw [e, hfree j hf]
    rw [hj]; exact hc j
  · exact (Lifecycle.isEnlisted_iff _).mp (hen j ((Lifecycle.isEnlisted_iff _).mpr (hst j hj)))

theorem Stands.ringWf (h : Stands s t) (hs : s.RingWf) : t.RingWf :=
  ringWf_of_same hs h.ring h.cursor (fun j => (h.records j).ringCount)
    fun j => (h.records j).isEnlisted

theorem Stands.urgentWf (h : Stands s t) (hs : s.UrgentWf) : t.UrgentWf := by
  obtain ⟨hl, hd, hst⟩ := hs
  obtain e | ⟨i, hi, hni, hlt, e⟩ := h.urgent
  · refine ⟨e.length_le.trans hl, hd.sublist e.sublist, fun j hj => ?_⟩
    exact (h.records j).isInService (hst j (e.mem hj))
  · have hni' : i ∉ s.urgent := by
      obtain h | h := hni
      · exact h
      · exact fun hm => by rw [hst i hm] at h; cases h
    rw [State.UrgentWf, e]
    refine ⟨by simpa using hlt, ?_, fun j hj => ?_⟩
    · exact List.nodup_append.mpr ⟨hd, by simp, by
        rintro a ha b hb rfl
        rw [List.mem_singleton.mp hb] at ha
        exact hni' ha⟩
    · obtain hj | hj := List.mem_append.mp hj
      · exact (h.records j).isInService (hst j hj)
      · rw [List.mem_singleton.mp hj]; exact hi

/-- A slot taken off the urgent list leaves the other slots there as they were (R37). -/
theorem urgentWf_of_removed (hs : s.UrgentWf) (hj : ∀ j, j ≠ i → t.record j = s.record j)
    (hu : t.urgent = s.urgent.filter (· != i)) : t.UrgentWf := by
  obtain ⟨hl, hd, hst⟩ := hs
  rw [State.UrgentWf, hu]
  refine ⟨(List.length_filter_le _ _).trans hl, hd.filter _, fun j hm => ?_⟩
  obtain ⟨hm, hne⟩ := List.mem_filter.mp hm
  rw [hj j (by simpa using hne)]
  exact hst j hm

/-- A ring edit leaves the urgent list and its stations' states (R29, R30). -/
theorem urgentWf_of_counted (f : Record → Record) (hs : s.UrgentWf) (hu : t.urgent = s.urgent)
    (hrec : t.records = (s.modRecord i f).records)
    (hf : (f (s.record i)).state = (s.record i).state) : t.UrgentWf := by
  obtain ⟨hl, hd, hst⟩ := hs
  obtain ⟨hi, hj⟩ := record_of_records hrec
  rw [State.UrgentWf, hu]
  refine ⟨hl, hd, fun j hm => ?_⟩
  by_cases e : j = i
  · subst e; rw [hi, hf]; exact hst j hm
  · rw [hj j e]; exact hst j hm

theorem ringWf_of_free (hr : ∀ j, t.record j = Record.free) (h : t.ring = [])
    (hc : t.ringCursor = 0) : t.RingWf := by
  rw [State.RingWf, h, hc]
  refine ⟨Nat.zero_le _, fun hne => absurd rfl hne, fun _ => rfl, fun j => ?_, nofun⟩
  rw [hr j]
  exact ⟨rfl, Nat.zero_le _⟩

theorem urgentWf_nil (h : t.urgent = []) : t.UrgentWf := by
  rw [State.UrgentWf, h]
  exact ⟨Nat.zero_le _, List.nodup_nil, nofun⟩

/-- The ring after an insertion (R29). -/
theorem ringWf_inserted (p : Nat) (hs : s.RingWf) (he : (s.record i).state.isEnlisted = true)
    (hp : p ≤ s.ring.length) (hl : s.ring.length < 64) (hc : (s.record i).ringCount < 4)
    (hrec : t.records = (s.modRecord i fun r => { r with ringCount := r.ringCount + 1 }).records)
    (hr : t.ring = s.ring.take p ++ i :: s.ring.drop p)
    (hcur : t.ringCursor = cursorAfterInsert s.ring.length p s.ringCursor) : t.RingWf := by
  obtain ⟨hi, hj⟩ := record_of_records hrec
  obtain ⟨_, hn, he0, hcount, hst⟩ := hs
  have hcnt : ∀ j, t.ring.count j = s.ring.count j + if j = i then 1 else 0 := by
    intro j
    have := List.count_append (a := j) (l₁ := s.ring.take p) (l₂ := s.ring.drop p)
    rw [List.take_append_drop] at this
    rw [hr, List.count_append, List.count_cons, this]
    simp only [beq_iff_eq, eq_comm (a := i)]
    omega
  have hlen : t.ring.length = s.ring.length + 1 := by
    rw [hr]; simp; omega
  refine ⟨by omega, fun _ => ?_, fun h => ?_, fun j => ?_, fun j hm => ?_⟩
  · rw [hcur, hlen]
    unfold cursorAfterInsert
    by_cases h0 : s.ring = []
    · simp [h0, he0 h0]
    · have := hn h0
      split <;> omega
  · rw [h] at hlen; simp at hlen
  · rw [hcnt]
    by_cases e : j = i
    · subst e; rw [hi, if_pos rfl, ← (hcount j).1]; exact ⟨rfl, hc⟩
    · rw [hj j e, if_neg e]; exact hcount j
  · by_cases e : j = i
    · subst e; rw [hi]; exact (Lifecycle.isEnlisted_iff _).mp he
    · rw [hj j e]
      rw [hr] at hm
      refine hst j ?_
      obtain hm | hm := List.mem_append.mp hm
      · exact List.mem_of_mem_take hm
      · obtain hm | hm := List.mem_cons.mp hm
        · exact absurd hm e
        · exact List.mem_of_mem_drop hm

/-- The ring after a removal (R30). -/
theorem ringWf_removed (p : Nat) (hs : s.RingWf) (hp : s.ring[p]? = some i)
    (hrec : t.records = (s.modRecord i fun r => { r with ringCount := r.ringCount - 1 }).records)
    (hr : (t.ring, t.ringCursor) = removeEntry (s.ring, s.ringCursor) p) : t.RingWf := by
  obtain ⟨hi, hj⟩ := record_of_records hrec
  obtain ⟨hl, hn, he0, hcount, hst⟩ := hs
  obtain ⟨hlt, hpi⟩ := List.getElem?_eq_some_iff.mp hp
  have hw : CursorWithin (t.ring, t.ringCursor) := by
    rw [hr]; exact cursorWithin_removeEntry _ _ hlt ⟨hn, he0⟩
  have hring : t.ring = s.ring.eraseIdx p := congrArg Prod.fst hr
  have hcnt : ∀ j, s.ring.count j = t.ring.count j + if j = i then 1 else 0 := by
    intro j
    have := (List.getElem_cons_eraseIdx_perm hlt).count_eq j
    rw [← this, hring, List.count_cons, hpi]
    simp only [beq_iff_eq, eq_comm (a := i)]
  refine ⟨?_, hw.1, hw.2, fun j => ?_, fun j hm => ?_⟩
  · rw [hring, List.length_eraseIdx_of_lt hlt]; omega
  · have := hcnt j
    by_cases e : j = i
    · subst e
      rw [hi]
      have h' := hcount j
      simp only [if_true] at this
      constructor <;> simp only <;> omega
    · rw [hj j e]
      simp only [e, if_false, Nat.add_zero] at this
      rw [← this]; exact hcount j
  · have hm' : j ∈ s.ring := by rw [hring] at hm; exact List.mem_of_mem_eraseIdx hm
    by_cases e : j = i
    · subst e; rw [hi]; exact hst j hm'
    · rw [hj j e]; exact hst j hm'

theorem ringWf_purged (hs : s.RingWf) : (s.purged i).RingWf := by
  obtain ⟨_, _, _, _, _, _, _, e⟩ := s.purged_frame i
  have hr : (s.purged i).ring = s.ring.filter (· != i) := by rw [e]; rfl
  have hcur : (s.purged i).ringCursor =
      (purgeEntries i (s.ring, s.ringCursor) s.ring.length).2 := by rw [e]; rfl
  obtain ⟨hl, hn, he0, hcount, hst⟩ := hs
  have hw : CursorWithin ((s.purged i).ring, (s.purged i).ringCursor) := by
    rw [hr, hcur, ← ring_purgeEntries_length i s.ring s.ringCursor]
    exact cursorWithin_purgeEntries i _ _ ⟨hn, he0⟩
  refine ⟨?_, hw.1, hw.2, fun j => ?_, fun j hm => ?_⟩
  · rw [hr]; exact (List.length_filter_le _ _).trans hl
  · rw [hr]
    by_cases e : j = i
    · subst e
      have h0 : ((s.purged j).record j).ringCount = 0 := by
        rw [State.record_purged_same]; split <;> rfl
      rw [h0, List.count_eq_zero.mpr (by simp)]
      exact ⟨rfl, Nat.zero_le _⟩
    · rw [State.record_purged_ne _ _ _ e, List.count_filter (by simpa using e)]
      exact hcount j
  · rw [hr] at hm
    obtain ⟨hm, hne⟩ := List.mem_filter.mp hm
    rw [State.record_purged_ne _ _ _ (by simpa using hne)]
    exact hst j hm

theorem stands_testRetired : Stands s (s.testRetired i) :=
  Stands.testRetired (.of_records (fun _ => .refl _) rfl rfl rfl)

/-- Every act keeps the ring's bounds, its counts and its cursor (R7, R27). -/
theorem Act.ringWf (h : Act s t) (hs : s.RingWf) : t.RingWf := by
  obtain hn | ⟨i, st, hi, rfl⟩ | ⟨i, hi, rfl⟩ | ⟨i, p, he, hp, hl, hc, rfl⟩ | ⟨i, p, hp, rfl⟩ :=
    h.stands
  · exact hn.ringWf hs
  · have hrec : ∀ j, ((s.modRecord i fun r => { r with state := .held st }).removeUrgent i).record j =
        (s.modRecord i fun r => { r with state := .held st }).record j := fun _ => rfl
    refine ringWf_of_same hs rfl (.inl rfl) (fun j => .inl ?_) fun j he => ?_
    · rw [hrec, State.record_modRecord]
      split
      · next e => rw [e]
      · rfl
    · rw [hrec, State.record_modRecord]
      split
      · rfl
      · exact he
  · rw [State.retire_eq]
    exact (stands_testRetired (s := s.purged i)).ringWf (ringWf_purged hs)
  · exact ringWf_inserted p hs he hp hl hc rfl rfl rfl
  · exact ringWf_removed p hs hp rfl rfl

/-- Every act keeps the urgent list's bound and the standing of its stations (R34). -/
theorem Act.urgentWf (h : Act s t) (hs : s.UrgentWf) : t.UrgentWf := by
  obtain hn | ⟨i, st, hi, rfl⟩ | ⟨i, hi, rfl⟩ | ⟨i, p, _, _, _, _, rfl⟩ | ⟨i, p, _, rfl⟩ := h.stands
  · exact hn.urgentWf hs
  · refine urgentWf_of_removed (i := i) hs (fun j hj => ?_) rfl
    exact (record_of_records (f := fun r => { r with state := .held st }) rfl).2 j hj
  · rw [State.retire_eq]
    obtain ⟨_, _, _, _, _, _, _, e⟩ := s.purged_frame i
    exact (stands_testRetired (s := s.purged i)).urgentWf
      (urgentWf_of_removed hs (fun j hj => State.record_purged_ne s i j hj) (by rw [e]; rfl))
  · exact urgentWf_of_counted (fun r => { r with ringCount := r.ringCount + 1 }) hs rfl rfl rfl
  · exact urgentWf_of_counted (fun r => { r with ringCount := r.ringCount - 1 }) hs rfl rfl rfl

/-- A record that a taken RETIRED frees stands in neither list (R22, R23). -/
theorem taken_standing (rest : List Slot) (hr : s.RetiredWf) (j : Slot) :
    let t := { s.setRecord i (takenRecord (s.record i)) with attention := rest }
    t.record j = s.record j ∨
      (j = i ∧ (s.record i).state = .retiring ∧ t.record j = Record.free) ∨
      (j = i ∧ t.record j = { s.record i with reasons := 0, failureCause := .none }) := by
  intro t
  have hrec : t.record j = (s.setRecord i (takenRecord (s.record i))).record j :=
    State.record_congr _ _ rfl j
  rw [hrec, State.record_setRecord]
  split
  · next e =>
    unfold takenRecord
    split
    · next h => exact .inr (.inl ⟨e, (hr i h).1, rfl⟩)
    · exact .inr (.inr ⟨e, rfl⟩)
  · exact .inl rfl

theorem not_mem_ring_of_retiring (hs : s.RingWf) (hi : (s.record i).state = .retiring) :
    i ∉ s.ring := by
  obtain ⟨_, _, _, _, hst⟩ := hs
  exact fun hm => (hst i hm).2 hi

theorem ringWf_taken (rest : List Slot) (hr : s.RetiredWf) (hs : s.RingWf) :
    State.RingWf { s.setRecord i (takenRecord (s.record i)) with attention := rest } := by
  have ht := fun j => taken_standing (i := i) rest hr j
  have hnm := fun j => not_mem_ring_of_retiring (i := j) hs
  obtain ⟨hl, hn, he, hc, hst⟩ := hs
  refine ⟨hl, hn, he, fun j => ?_, fun j hm => ?_⟩
  · obtain e | ⟨rfl, hret, e⟩ | ⟨rfl, e⟩ := ht j
    · rw [e]; exact hc j
    · rw [e]
      exact ⟨(List.count_eq_zero.mpr (hnm j hret)).symm, Nat.zero_le _⟩
    · rw [e]; exact hc j
  · obtain e | ⟨rfl, hret, e⟩ | ⟨rfl, e⟩ := ht j
    · rw [e]; exact hst j hm
    · exact absurd hm (hnm j hret)
    · rw [e]; exact hst j hm

theorem urgentWf_taken (rest : List Slot) (hr : s.RetiredWf) (hs : s.UrgentWf) :
    State.UrgentWf { s.setRecord i (takenRecord (s.record i)) with attention := rest } := by
  obtain ⟨hl, hd, hst⟩ := hs
  refine ⟨hl, hd, fun j hm => ?_⟩
  have hj := hst j hm
  obtain e | ⟨rfl, hret, e⟩ | ⟨rfl, e⟩ := taken_standing (i := i) rest hr j
  · rw [e]; exact hj
  · rw [hret] at hj; cases hj
  · rw [e]; exact hj

/-- The ring and the urgent list name only stations in use, whatever happens; NEXT ATTENTION frees none of them because a
record whose set holds RETIRED is RETIRING (R22, R27, R34). -/
theorem listsLaw : LedgerLaw fun s => s.RetiredWf ∧ s.RingWf ∧ s.UrgentWf where
  congr {s t} hs h := by
    obtain ⟨hret, hring, hurg⟩ := hs
    have hrec := State.record_congr t s (congrArg Ledger.records h)
    refine ⟨retiredLaw.congr hret h, ?_, ?_⟩
    · exact ringWf_of_same hring (congrArg Ledger.ring h) (.inl (congrArg Ledger.ringCursor h))
        (fun j => .inl (by rw [hrec])) (fun j => by rw [hrec]; exact id)
    · obtain ⟨hl, hd, hst⟩ := hurg
      have hu : t.urgent = s.urgent := congrArg Ledger.urgent h
      rw [State.UrgentWf, hu]
      exact ⟨hl, hd, fun j hm => by rw [hrec]; exact hst j hm⟩
  act h := fun ⟨hret, hring, hurg⟩ => ⟨retiredLaw.act h hret, h.ringWf hring, h.urgentWf hurg⟩
  taken h := fun ⟨hret, hring, hurg⟩ =>
    ⟨retiredLaw.taken h hret, ringWf_taken _ hret hring, urgentWf_taken _ hret hurg⟩
  emptied := fun ⟨hret, _, _⟩ =>
    ⟨retiredLaw.emptied hret, ringWf_of_free record_emptyTable rfl rfl, urgentWf_nil rfl⟩
  reset := ⟨retiredLaw.reset, ringWf_of_free record_reset rfl rfl, urgentWf_nil rfl⟩

end

/-- Settles O11: with RETIRED tied to its condition, the ring and the urgent list are laws of the ledger. -/
theorem ringAndUrgentListNameStationsInUse : Obligations.RingAndUrgentListNameStationsInUse :=
  fun _ _ hret hring hurg h => listsLaw.step h ⟨hret, hring, hurg⟩

end Sys2Proof.Machine
end

section
namespace Sys2Proof.Machine

/-! ### The record that an act changes (R1, R2, R5, R9) -/

/-- The act from `s` to `t` changes no record but that of `i`, does not make it FREE, keeps its bounds, and gives it at most an
address that no other record in use holds. -/
structure ActsOn (s t : State) (i : Slot) : Prop where
  others : ∀ j, j ≠ i → t.record j = s.record j
  free : (t.record i).state = .free → (s.record i).state = .free
  inUse : s.BaseWf → (t.record i).state ≠ .free ∨ t.record i = s.record i
  bounded : s.BaseWf → (s.record i).Bounded → (t.record i).Bounded
  address : ((t.record i).address = (s.record i).address ∧
      ((t.record i).state ≠ .free → (s.record i).state ≠ .free)) ∨
    (isIndividualAddress (t.record i).address = true ∧
      ∀ j, j ≠ i → (s.record j).state ≠ .free → (s.record j).address ≠ (t.record i).address)

section
variable {s t : State} {i : Slot}

theorem ActsOn.of_records (i : Slot) (h : t.records = s.records) : ActsOn s t i := by
  have hr := State.record_congr t s h
  exact ⟨fun j _ => hr j, by rw [hr i]; exact id, fun _ => .inr (hr i),
    fun _ => by rw [hr i]; exact id, .inl ⟨by rw [hr i], by rw [hr i]; exact id⟩⟩

theorem ActsOn.congr {u : State} (h : ActsOn s t i) (hu : u.records = t.records) :
    ActsOn s u i := by
  have hr := State.record_congr u t hu
  refine ⟨fun j hj => (hr j).trans (h.others j hj), ?_, ?_, ?_, ?_⟩
  all_goals rw [hr i]
  exacts [h.free, h.inUse, h.bounded, h.address]

/-- One record changed by a function that keeps it in use, in its bounds and at its address. -/
theorem actsOn_modRecord (f : Record → Record) (hs : s.BaseWf → (s.record i).state ≠ .free)
    (hf : (f (s.record i)).state = .free ↔ (s.record i).state = .free)
    (hb : s.BaseWf → (s.record i).Bounded → (f (s.record i)).Bounded)
    (ha : (f (s.record i)).address = (s.record i).address) : ActsOn s (s.modRecord i f) i := by
  refine ⟨fun j hj => State.record_modRecord_ne _ _ _ _ hj, ?_, ?_, ?_, ?_⟩
  all_goals rw [State.record_modRecord_same]
  · exact hf.mp
  · exact fun hw => .inl fun e => hs hw (hf.mp e)
  · exact hb
  · exact .inl ⟨ha, mt hf.mpr⟩

theorem Lifecycle.ne_free_of_isInService {a : Lifecycle} (h : a.isInService = true) : a ≠ .free :=
  Lifecycle.ne_free_of_isEnlisted (Lifecycle.isEnlisted_of_isInService h)

/-- A record whose exchange is in progress is in use (R2, R51). -/
theorem ne_free_of_context {c : Context} (hw : s.FreeWf) (hc : s.context = some c)
    (hi : c.exchange.slot? = some i) : (s.record i).state ≠ .free := by
  intro hf
  have := (hw i hf).2
  simp [State.contextNames, hc, hi] at this

theorem Record.Bounded.textFreed {r : Record} (h : r.Bounded) : r.textFreed.Bounded :=
  ⟨h.missCount, Nat.zero_le _, h.group, h.quietLimit, h.quietCount, fun _ => ⟨rfl, rfl⟩⟩

/-- Operations on one record keep its bounds. -/
theorem Touches.bounded {G : Prop} (h : Touches G i s t) (g : G) (hs : (s.record i).Bounded) :
    (t.record i).Bounded := by
  induction h with
  | refl => exact hs
  | turn f _ _ hb ih => rw [State.record_modRecord_same]; exact hb g ih
  | raise r _ _ _ ih => rw [State.record_raise_same]; exact { ih with }
  | raiseFailed c _ _ ih =>
    rw [State.record_raiseFailed_same]
    split
    · exact { ih with }
    · exact ih
  | freeText _ ih => rw [State.record_freeText_same]; exact ih.textFreed
  | returnText _ _ ih => rw [State.record_returnText]; exact ih
  | store a x _ _ _ ih => rw [State.record_storeInbound_same]; exact { ih with }
  | follow o _ ih => exact ih

theorem Touches.actsOn {G : Prop} (h : Touches G i s t) (hs : s.BaseWf → (s.record i).state ≠ .free)
    (hg : s.BaseWf → G) : ActsOn s t i :=
  ⟨fun _ hj => h.record_ne hj, h.keeps.state.free.mp,
    fun hw => .inl (mt h.keeps.state.free.mp (hs hw)), fun hw hb => h.bounded (hg hw) hb,
    .inl ⟨h.keeps.address, mt h.keeps.state.free.mpr⟩⟩

theorem ActsOn.testRetired (h : ActsOn s t i) : ActsOn s (t.testRetired i) i := by
  have hsame := State.record_testRetired_same t i
  have hst : ((t.testRetired i).record i).state = (t.record i).state := by rw [hsame]
  have had : ((t.testRetired i).record i).address = (t.record i).address := by rw [hsame]
  refine ⟨fun j hj => ?_, ?_, fun hw => ?_, fun hw hb => ?_, ?_⟩
  · rw [State.record_testRetired_ne _ _ _ hj, h.others j hj]
  · rw [hst]; exact h.free
  · rw [hst]
    by_cases hf : (t.record i).state = .free
    · right
      rw [State.testRetired_of_not_retiring t i (by rw [hf]; simp)]
      exact (h.inUse hw).resolve_left (not_not.mpr hf)
    · exact .inl hf
  · have := h.bounded hw hb
    rw [hsame]; exact { this with }
  · rw [hst, had]; exact h.address

theorem Lifecycle.ne_free_of_held {a : Lifecycle} {st : Standing} (h : a = .held st) : a ≠ .free := by
  rw [h]; simp

theorem bounded_admittedRecord {a g q : Octet} (hg : isGroupArgument g = true) :
    (admittedRecord a g q).Bounded :=
  ⟨Nat.zero_le _, Nat.zero_le _, fun x hx => isGroupArgument_optional g x hg hx,
    one_le_optional q, Nat.zero_le _, fun _ => ⟨rfl, rfl⟩⟩

theorem records_appendUrgent : (s.appendUrgent i).records = s.records := by
  unfold State.appendUrgent
  split <;> rfl

theorem actsOn_purged (hi : (s.record i).state.isEnlisted = true) : ActsOn s (s.purged i) i := by
  have hne := Lifecycle.ne_free_of_isEnlisted hi
  have hst : ((s.purged i).record i).state = .retiring := by
    rw [State.record_purged_same]; split <;> rfl
  refine ⟨fun j hj => State.record_purged_ne _ _ _ hj, ?_, fun _ => .inl ?_, fun _ hb => ?_,
    .inl ⟨?_, fun _ => hne⟩⟩
  · rw [hst]; simp
  · rw [hst]; simp
  · have hr : (s.record i).retired.Bounded := { hb with }
    rw [State.record_purged_same]
    split
    · exact hr.textFreed
    · exact hr
  · rw [State.record_purged_same]; split <;> rfl

/-- Every act changes one record at most, and makes none FREE. -/
theorem Act.actsOn (h : Act s t) : ∃ i, ActsOn s t i := by
  cases h with
  | idle => exact ⟨⟨0, by decide⟩, .of_records _ rfl⟩
  | whollySent => exact ⟨⟨0, by decide⟩, .of_records _ rfl⟩
  | turned i f hs ht hf hb =>
    exact ⟨i, actsOn_modRecord f (fun _ => hs) (by rw [ht]) (fun _ => hb) hf.address⟩
  | readdressed i v k hs hv ho =>
    refine ⟨i, fun j hj => State.record_modRecord_ne _ _ _ _ hj, ?_, ?_, ?_, ?_⟩
    all_goals rw [State.record_modRecord_same]
    · exact id
    · exact fun _ => .inl hs
    · exact fun _ hb => { hb with }
    · refine .inr ⟨hv, fun j hj hf ha => ?_⟩
      have := List.any_eq_false.mp ho j (List.mem_finRange j)
      simp [hj, hf, ha] at this
  | cancelled i hs _ =>
    have h : Touches s.BaseWf i s (s.freeText i) := .freeText .refl
    refine ⟨i, ?_⟩
    unfold State.cancelFilled
    split
    · exact h.actsOn (fun _ => hs) id
    · exact h.setResync.actsOn (fun _ => hs) id
  | entered i a g q ha hg ho hi =>
    have hrec := State.record_congr _ _
      (records_appendUrgent (s := s.setRecord i (admittedRecord a g q)) (i := i))
    refine ⟨i, fun j hj => ?_, ?_, ?_, ?_, ?_⟩
    · rw [hrec, State.record_setRecord_ne _ _ _ _ hj]
    all_goals rw [hrec, State.record_setRecord_same]
    · nofun
    · exact fun _ => .inl (by simp [admittedRecord])
    · exact fun _ _ => bounded_admittedRecord hg
    · refine .inr ⟨ha, fun j _ hf he => ?_⟩
      have := (find_finRange_eq_none _).mp ho j
      simp [hf, he, admittedRecord] at this
  | held i st hs =>
    have hne := Lifecycle.ne_free_of_isInService (a := (s.record i).state) (by rw [hs]; rfl)
    exact ⟨i, (actsOn_modRecord (fun r => { r with state := .held st }) (fun _ => hne)
      (by simp [hne]) (fun _ hb => { hb with }) rfl).congr rfl⟩
  | releasedActive i st hs =>
    have hne := Lifecycle.ne_free_of_held hs
    exact ⟨i, actsOn_modRecord _ (fun _ => hne) (by simp [hne])
      (fun _ hb => { hb with missCount := Nat.zero_le _ }) rfl⟩
  | releasedLost i st hs =>
    have hne := Lifecycle.ne_free_of_held hs
    exact ⟨i, actsOn_modRecord _ (fun _ => hne) (by simp [hne]) (fun _ hb => { hb with }) rfl⟩
  | releasedStaged i st hs =>
    have hne := Lifecycle.ne_free_of_held hs
    exact ⟨i, (actsOn_modRecord (fun r => { r with state := .inService .staged }) (fun _ => hne)
      (by simp [hne]) (fun _ hb => { hb with }) rfl).congr records_appendUrgent⟩
  | retired i hs =>
    rw [State.retire_eq]
    exact ⟨i, (actsOn_purged hs).testRetired⟩
  | ringInserted i p hs _ _ _ =>
    exact ⟨i, (actsOn_modRecord (fun r => { r with ringCount := r.ringCount + 1 })
      (fun _ => Lifecycle.ne_free_of_isEnlisted hs) Iff.rfl (fun _ hb => { hb with }) rfl).congr rfl⟩
  | ringRemoved i p hp =>
    refine ⟨i, (actsOn_modRecord (fun r => { r with ringCount := r.ringCount - 1 }) (fun hw => ?_)
      Iff.rfl (fun _ hb => { hb with }) rfl).congr rfl⟩
    obtain ⟨_, _, _, _, hst⟩ := hw.ledger.ring
    exact (hst i (List.mem_of_getElem? hp)).1
  | pollQueued i _ _ _ => exact ⟨i, .of_records _ rfl⟩
  | textQueued i b hs _ _ _ =>
    exact ⟨i, (actsOn_modRecord
      (fun r => { r with outboundText := some b, retryCount := 0, cancelRequested := false })
      (fun _ => Lifecycle.ne_free_of_isEnlisted hs) Iff.rfl
      (fun _ hb => { hb with retryCount := Nat.zero_le _, noText := nofun }) rfl).congr rfl⟩
  | groupQueued a b _ _ _ => exact ⟨⟨0, by decide⟩, .of_records _ rfl⟩
  | cursorMoved n _ => exact ⟨⟨0, by decide⟩, .of_records _ rfl⟩
  | inboundReleased x rest h =>
    refine ⟨x.slot, ActsOn.testRetired ((actsOn_modRecord
      (fun r => { r with inboundCount := r.inboundCount - 1 }) (fun hw => ?_) Iff.rfl
      (fun _ hb => { hb with }) rfl).congr rfl)⟩
    obtain ⟨_, _, htexts, _⟩ := hw.ledger.inbound
    exact (htexts x (by rw [h]; exact List.mem_cons_self)).1
  | passed h =>
    obtain ⟨_, _, _, _, _, rfl, _⟩ := h
    exact ⟨⟨0, by decide⟩, .of_records _ rfl⟩
  | began x h _ _ =>
    obtain ⟨_, _, _, _, _, rfl, _⟩ := h
    exact ⟨⟨0, by decide⟩, .of_records _ rfl⟩
  | ended c i hc hi h _ =>
    rw [endContext_of_slot _ _ hi]
    exact ⟨i, ActsOn.testRetired ((h.actsOn (fun hw => ne_free_of_context hw.ledger.free hc hi)
      id).congr rfl)⟩
  | dropped c b _ _ => exact ⟨⟨0, by decide⟩, .of_records _ rfl⟩
  | sent c b _ _ => exact ⟨⟨0, by decide⟩, .of_records _ (records_applySent b)⟩

/-- Every record in bounds. -/
def State.BoundedWf (s : State) : Prop := ∀ i, (s.record i).Bounded

theorem boundedWf_iff : s.BoundedWf ↔ s.RecordWf ∧ ∀ i : Slot, (s.record i).outboundText = none →
    (s.record i).retryCount = 0 ∧ (s.record i).cancelRequested = false := by
  constructor
  · exact fun h => ⟨fun i => ⟨(h i).missCount, (h i).retryCount, (h i).group, (h i).quietLimit,
      (h i).quietCount⟩, fun i => (h i).noText⟩
  · rintro ⟨h, hn⟩ i
    obtain ⟨h1, h2, h3, h4, h5⟩ := h i
    exact ⟨h1, h2, h3, h4, h5, hn i⟩

theorem State.BaseWf.boundedWf (h : s.BaseWf) : s.BoundedWf := by
  obtain ⟨_, _, _, _, _, _, _, _, _, hn⟩ := h.ledger.texts
  exact boundedWf_iff.mpr ⟨h.ledger.records, hn⟩

theorem Act.boundedWf (h : Act s t) (hw : s.BaseWf) : t.BoundedWf := by
  obtain ⟨i, hi⟩ := h.actsOn
  intro j
  by_cases e : j = i
  · subst e; exact hi.bounded hw (hw.boundedWf j)
  · rw [hi.others j e]; exact hw.boundedWf j

theorem Act.freeWf (h : Act s t) (hw : s.BaseWf) : t.FreeWf := by
  obtain ⟨i, hi⟩ := h.actsOn
  intro j hj
  have hsame : t.record j = s.record j := by
    by_cases e : j = i
    · subst e; exact (hi.inUse hw).resolve_left (not_not.mpr hj)
    · exact hi.others j e
  rw [hsame] at hj ⊢
  obtain ⟨hrec, hn⟩ := hw.ledger.free j hj
  refine ⟨hrec, ?_⟩
  by_contra hc
  obtain e | e := h.contextNames j (by simpa using hc)
  · rw [hn] at e; cases e
  · rw [hj] at e; cases e

theorem Act.addressWf (h : Act s t) (hw : s.BaseWf) : t.AddressWf := by
  obtain ⟨i, hi⟩ := h.actsOn
  obtain ⟨huniq, hind⟩ := hw.ledger.addresses
  have hcross : ∀ j, j ≠ i → (t.record i).state ≠ .free → (s.record j).state ≠ .free →
      (t.record i).address ≠ (s.record j).address := by
    intro j hj hfi hfj ha
    obtain ⟨e, hst⟩ | ⟨_, hno⟩ := hi.address
    · exact hj (huniq j i hfj (hst hfi) (by rw [← ha, e]))
    · exact hno j hj hfj ha.symm
  refine ⟨fun j k hj hk ha => ?_, fun j hj => ?_⟩
  · by_cases ej : j = i
    · by_cases ek : k = i
      · rw [ej, ek]
      · subst ej
        rw [hi.others k ek] at hk ha
        exact absurd ha (hcross k ek hj hk)
    · by_cases ek : k = i
      · subst ek
        rw [hi.others j ej] at hj ha
        exact absurd ha.symm (hcross j ej hk hj)
      · rw [hi.others j ej] at hj ha
        rw [hi.others k ek] at hk ha
        exact huniq j k hj hk ha
  · by_cases ej : j = i
    · subst ej
      obtain ⟨e, hst⟩ | ⟨hv, _⟩ := hi.address
      · rw [e]; exact hind j (hst hj)
      · exact hv
    · rw [hi.others j ej] at hj ⊢
      exact hind j hj

end

end Sys2Proof.Machine
end

section
namespace Sys2Proof.Machine

/-! ### The inbound pair (R67, R90, R91) -/

/-- The inbound pair apart from the exchange in progress. -/
structure State.PairWf (s : State) : Prop where
  length : s.inbound.length ≤ 2
  counts : ∀ i : Slot, (s.record i).inboundCount = s.inbound.countP fun x => x.slot == i
  texts : ∀ x ∈ s.inbound, (s.record x.slot).state ≠ .free ∧ isIndividualAddress x.address = true ∧
    1 ≤ x.text.length ∧ x.text.length ≤ 128
  cursor : s.inboundCursor ≤ (s.inbound.head?.map (·.text.length)).getD 0

/-- What the exchange in progress asks of the inbound pair. -/
structure State.AwaitsWf (s : State) : Prop where
  room : ∀ c ∈ s.context, ∀ i : Slot, c.exchange = .poll i → c.hSent = false → s.inbound.length ≤ 1
  address : ∀ c ∈ s.context, c.exchange.slot?.isSome = true → isIndividualAddress c.address = true

section
variable {s t : State} {i : Slot}

theorem inboundWf_iff : s.InboundWf ↔ s.PairWf ∧ s.AwaitsWf := by
  constructor
  · rintro ⟨h1, h2, h3, h4, h5, h6⟩
    exact ⟨⟨h1, h2, h3, h4⟩, ⟨h5, h6⟩⟩
  · rintro ⟨⟨h1, h2, h3, h4⟩, ⟨h5, h6⟩⟩
    exact ⟨h1, h2, h3, h4, h5, h6⟩

theorem awaitsWf_of_none (h : s.context = none) : s.AwaitsWf := by
  constructor <;> rw [h] <;> nofun

/-- The exchange in progress as it was, its point aside. -/
theorem State.AwaitsWf.of_context (hs : s.AwaitsWf) (hi : t.inbound = s.inbound)
    (hc : ∀ c ∈ t.context, ∃ c' ∈ s.context,
      (c.exchange, c.hSent, c.address) = (c'.exchange, c'.hSent, c'.address)) : t.AwaitsWf := by
  constructor <;> intro c hm
  all_goals
    obtain ⟨c', hm', e⟩ := hc c hm
    simp only [Prod.mk.injEq] at e
    obtain ⟨e1, e2, e3⟩ := e
  · rw [e1, e2, hi]; exact hs.room c' hm'
  · rw [e1, e3]; exact hs.address c' hm'

theorem State.AwaitsWf.of_same (hs : s.AwaitsWf) (hi : t.inbound = s.inbound)
    (hc : t.context = s.context) : t.AwaitsWf :=
  hs.of_context hi fun c hm => ⟨c, by rw [← hc]; exact hm, rfl⟩

theorem State.PairWf.of_same (hs : s.PairWf) (hi : t.inbound = s.inbound)
    (hc : t.inboundCursor = s.inboundCursor)
    (hn : ∀ j, (t.record j).inboundCount = (s.record j).inboundCount)
    (hf : ∀ j, (t.record j).state = .free → (s.record j).state = .free) : t.PairWf := by
  refine ⟨by rw [hi]; exact hs.length, fun j => ?_, fun x hx => ?_, by rw [hi, hc]; exact hs.cursor⟩
  · rw [hn, hi]; exact hs.counts j
  · rw [hi] at hx
    obtain ⟨h1, h2⟩ := hs.texts x hx
    exact ⟨fun e => h1 (hf _ e), h2⟩

theorem State.PairWf.storeInbound (hs : s.PairWf) (a : Octet) (x : List Octet)
    (hne : (s.record i).state ≠ .free)
    (hx : s.inbound.length ≤ 1 ∧ isIndividualAddress a = true ∧ 1 ≤ x.length ∧ x.length ≤ 128) :
    (s.storeInbound i a x).PairWf := by
  obtain ⟨hl, ha, hx1, hx2⟩ := hx
  have hin : (s.storeInbound i a x).inbound = s.inbound ++ [⟨i, a, x⟩] := rfl
  have hst : ∀ j, ((s.storeInbound i a x).record j).state = (s.record j).state := by
    intro j
    by_cases e : j = i
    · subst e; rw [State.record_storeInbound_same]
    · rw [State.record_storeInbound_ne _ _ _ _ _ e]
  refine ⟨by rw [hin]; simpa using hl, fun j => ?_, fun y hy => ?_, ?_⟩
  · rw [hin, List.countP_append]
    by_cases e : j = i
    · subst e; rw [State.record_storeInbound_same, ← hs.counts]; simp
    · rw [State.record_storeInbound_ne _ _ _ _ _ e, hs.counts]
      simp [Ne.symm e]
  · rw [hst]
    rw [hin] at hy
    obtain hy | hy := List.mem_append.mp hy
    · exact hs.texts y hy
    · rw [List.mem_singleton.mp hy]; exact ⟨hne, ha, hx1, hx2⟩
  · have hc := hs.cursor
    have hcur : (s.storeInbound i a x).inboundCursor = s.inboundCursor := rfl
    rw [hin, hcur]
    cases h : s.inbound with
    | nil => rw [h] at hc; exact le_trans hc (Nat.zero_le _)
    | cons y ys => rw [h] at hc; exact hc

/-- One record changed in neither its inbound count nor its being in use. -/
theorem State.PairWf.of_slot (hs : s.PairWf) (hi : t.inbound = s.inbound)
    (hc : t.inboundCursor = s.inboundCursor) (hj : ∀ j, j ≠ i → t.record j = s.record j)
    (hn : (t.record i).inboundCount = (s.record i).inboundCount)
    (hf : (t.record i).state = .free → (s.record i).state = .free) : t.PairWf := by
  refine hs.of_same hi hc (fun j => ?_) fun j => ?_ <;> by_cases e : j = i
  · subst e; exact hn
  · rw [hj j e]
  · subst e; exact hf
  · rw [hj j e]; exact id

theorem inboundCursor_raiseFailed (c : FailureCause) :
    (s.raiseFailed i c).inbound = s.inbound ∧ (s.raiseFailed i c).inboundCursor = s.inboundCursor := by
  obtain ⟨_, _, _, _, _, _, _, e⟩ := slotFrame_raise s i .failed
  unfold State.raiseFailed
  split
  · constructor
    · rw [State.modRecord_inbound, State.raise_frame]
    · rw [State.modRecord_inboundCursor, State.raise_frame]
  · exact ⟨rfl, rfl⟩

/-- The end of an exchange keeps the inbound pair, with a text stored where there is room for one (R67, R90). -/
theorem Touches.pairWf {G : Prop} (h : Touches G i s t) (g : G) (hne : (s.record i).state ≠ .free)
    (hs : s.PairWf) : t.PairWf := by
  induction h with
  | refl => exact hs
  | turn f _ ht _ ih =>
    refine ih.of_slot (i := i) rfl rfl (fun j hj => State.record_modRecord_ne _ _ _ _ hj) ?_ ?_
    all_goals rw [State.record_modRecord_same]
    · exact ht.inboundCount
    · exact ht.keeps.state.free.mp
  | raise r _ _ _ ih =>
    refine ih.of_slot (i := i) (by rw [State.raise_frame]) (by rw [State.raise_frame])
      (fun j hj => State.record_raise_ne _ _ _ _ hj) ?_ ?_
    all_goals rw [State.record_raise_same]
    exact id
  | raiseFailed c _ _ ih =>
    obtain ⟨h1, h2⟩ := inboundCursor_raiseFailed (s := _) (i := i) c
    refine ih.of_slot (i := i) h1 h2 (fun j hj => State.record_raiseFailed_ne _ _ _ _ hj) ?_ ?_
    · rw [State.record_raiseFailed_same]
      split <;> rfl
    · rw [State.record_raiseFailed_same]
      split <;> exact id
  | freeText _ ih =>
    refine ih.of_slot (i := i) (by rw [State.freeText_frame]) (by rw [State.freeText_frame])
      (fun j hj => State.record_freeText_ne _ _ _ hj) ?_ ?_
    all_goals rw [State.record_freeText_same]
    exact id
  | returnText _ _ ih =>
    refine ih.of_same (by rw [State.returnText_frame]) (by rw [State.returnText_frame])
      (fun j => ?_) fun j => ?_
    all_goals rw [State.record_returnText]
    exact id
  | store a x h _ hx ih => exact ih.storeInbound a x (mt h.keeps.state.free.mp hne) (hx g)
  | follow o _ ih => exact ⟨ih.length, ih.counts, ih.texts, ih.cursor⟩

theorem State.PairWf.testRetired (hs : s.PairWf) : (s.testRetired i).PairWf := by
  refine hs.of_slot (i := i) (by rw [State.testRetired_frame]) (by rw [State.testRetired_frame])
    (fun j hj => State.record_testRetired_ne _ _ _ hj) ?_ ?_
  all_goals rw [State.record_testRetired_same]
  exact id

theorem State.AwaitsWf.testRetired (hs : s.AwaitsWf) : (s.testRetired i).AwaitsWf :=
  hs.of_same (by rw [State.testRetired_frame]) (by rw [State.testRetired_frame])

theorem inbound_freeText : (s.freeText i).inbound = s.inbound := by rw [State.freeText_frame]

theorem pairWf_purged (hs : s.PairWf) : (s.purged i).PairWf := by
  obtain ⟨_, _, _, _, _, _, _, e⟩ := s.purged_frame i
  refine hs.of_slot (i := i) ?_ (by rw [e]; rfl) (fun j hj => State.record_purged_ne _ _ _ hj) ?_ ?_
  · unfold State.purged
    split
    · rw [State.freeText_frame]; rfl
    · rfl
  · rw [State.record_purged_same]
    split <;> rfl
  · rw [State.record_purged_same]
    split <;> exact nofun

/-- The head text given back (R93). -/
theorem pairWf_dropInbound (x : InboundText) (rest : List InboundText) (h : s.inbound = x :: rest)
    (hs : s.PairWf) : (s.dropInbound x rest).PairWf := by
  obtain ⟨hi, hj⟩ := record_of_records (t := s.dropInbound x rest)
    (f := fun r => { r with inboundCount := r.inboundCount - 1 }) rfl
  have hst : ∀ j, ((s.dropInbound x rest).record j).state = (s.record j).state := by
    intro j
    by_cases e : j = x.slot
    · rw [e, hi]
    · rw [hj j e]
  have hl := hs.length
  rw [h, List.length_cons] at hl
  refine ⟨by show rest.length ≤ 2; omega, fun j => ?_, fun y hy => ?_, Nat.zero_le _⟩
  · have hc := hs.counts j
    show _ = rest.countP _
    rw [h, List.countP_cons] at hc
    by_cases e : j = x.slot
    · subst e
      rw [hi]
      simp only [beq_self_eq_true, if_true] at hc
      show (s.record x.slot).inboundCount - 1 = _
      omega
    · rw [hj j e, hc]
      simp [Ne.symm e]
  · rw [hst]
    exact hs.texts y (by rw [h]; exact List.mem_cons_of_mem _ hy)

theorem awaitsWf_dropInbound (x : InboundText) (rest : List InboundText)
    (h : s.inbound = x :: rest) (hs : s.AwaitsWf) : (s.dropInbound x rest).AwaitsWf := by
  refine ⟨fun c hc i hi hh => ?_, hs.address⟩
  have := hs.room c hc i hi hh
  rw [h, List.length_cons] at this
  show rest.length ≤ 1
  omega

theorem inboundCount_of_free (hw : s.FreeWf) (h : (s.record i).state = .free) :
    (s.record i).inboundCount = 0 := by
  rw [(hw i h).1]; rfl

/-- The exchange begun takes the address its record holds, and a POLL says by H whether a buffer is EMPTY (R51, R56). -/
theorem awaitsWf_beginExchange (x : Exchange) (hx : s.Startable x) (ha : s.AddressWf) :
    (s.beginExchange x).AwaitsWf := by
  have hc : (s.beginExchange x).context = some (s.composeContext x) := rfl
  constructor <;> rw [hc] <;> intro c hm <;> obtain rfl := Option.some.inj hm
  · intro i hi hh
    cases x with
    | poll j =>
      have : decide (2 ≤ s.inbound.length) = false := hh
      show s.inbound.length ≤ 1
      have := of_decide_eq_false this
      omega
    | text j b => cases hi
    | sync j => cases hi
    | group b => cases hi
  · have hind : ∀ j, x.slot? = some j → isIndividualAddress (s.record j).address = true :=
      fun j hj => ha.2 j (Lifecycle.ne_free_of_isInService (hx.1 j hj))
    intro hs
    cases x with
    | poll j => exact hind j rfl
    | text j b => exact hind j rfl
    | sync j => exact hind j rfl
    | group b => cases hs

theorem inbound_applySent (b : BufferNo) :
    ((s.applySent b).inbound, (s.applySent b).inboundCursor) = (s.inbound, s.inboundCursor) := by
  unfold State.applySent
  split
  · split <;> rfl
  all_goals rfl

theorem Act.inboundWf (h : Act s t) (hw : s.BaseWf) : t.InboundWf := by
  obtain ⟨hp, ha⟩ := inboundWf_iff.mp hw.ledger.inbound
  rw [inboundWf_iff]
  have hmod : ∀ (i : Slot) (f : Record → Record) (u : State),
      u.records = (s.modRecord i f).records →
      (u.inbound, u.inboundCursor, u.context) = (s.inbound, s.inboundCursor, s.context) →
      (f (s.record i)).inboundCount = (s.record i).inboundCount →
      ((f (s.record i)).state = .free → (s.record i).state = .free) → u.PairWf ∧ u.AwaitsWf := by
    intro i f u hr he hn hf
    simp only [Prod.mk.injEq] at he
    obtain ⟨h1, h2, h3⟩ := he
    obtain ⟨hi, hj⟩ := record_of_records hr
    exact ⟨hp.of_slot h1 h2 hj (by rw [hi]; exact hn) (by rw [hi]; exact hf), ha.of_same h1 h3⟩
  have hsame : ∀ u : State, u.records = s.records →
      (u.inbound, u.inboundCursor) = (s.inbound, s.inboundCursor) → u.PairWf := by
    intro u hr he
    simp only [Prod.mk.injEq] at he
    have hrec := State.record_congr u s hr
    exact hp.of_same he.1 he.2 (fun j => by rw [hrec]) fun j => by rw [hrec]; exact id
  cases h with
  | idle => exact ⟨hp, ha⟩
  | whollySent =>
    refine ⟨hsame _ rfl rfl, ha.of_context rfl fun c hc => ?_⟩
    obtain ⟨c', hc', rfl⟩ : ∃ c', s.context = some c' ∧ { c' with point := .whollySent } = c := by
      simpa using hc
    exact ⟨c', hc', rfl⟩
  | turned i f _ _ hf _ => exact hmod i f _ rfl rfl hf.inboundCount hf.keeps.state.free.mp
  | readdressed i v k _ _ _ => exact hmod i _ _ rfl rfl rfl id
  | cancelled i hs _ =>
    have ht : Touches s.BaseWf i s (s.cancelFilled i) := by
      unfold State.cancelFilled
      split
      · exact .freeText .refl
      · exact (Touches.freeText .refl).setResync
    obtain ⟨_, _, _, _, _, _, _, e⟩ := ht.frame
    refine ⟨ht.pairWf hw hs hp, ha.of_same ?_ (by rw [e])⟩
    unfold State.cancelFilled
    split
    · exact inbound_freeText
    · exact inbound_freeText (s := s)
  | entered i a g q _ _ _ hi =>
    have hfree : (s.record i).state = .free := by
      simpa using ((find_finRange_eq_some _ _).mp hi).1
    have hrec := State.record_congr _ _
      (records_appendUrgent (s := s.setRecord i (admittedRecord a g q)) (i := i))
    have hin : ((s.setRecord i (admittedRecord a g q)).appendUrgent i).inbound = s.inbound ∧
        ((s.setRecord i (admittedRecord a g q)).appendUrgent i).inboundCursor = s.inboundCursor ∧
        ((s.setRecord i (admittedRecord a g q)).appendUrgent i).context = s.context := by
      unfold State.appendUrgent
      split <;> exact ⟨rfl, rfl, rfl⟩
    refine ⟨hp.of_slot (i := i) hin.1 hin.2.1 (fun j hj => ?_) ?_ fun _ => hfree,
      ha.of_same hin.1 hin.2.2⟩
    · rw [hrec, State.record_setRecord_ne _ _ _ _ hj]
    · rw [hrec, State.record_setRecord_same, inboundCount_of_free hw.ledger.free hfree]; rfl
  | held i st hs =>
    exact hmod i (fun r => { r with state := .held st }) _ rfl rfl rfl nofun
  | releasedActive i st hs => exact hmod i _ _ rfl rfl rfl nofun
  | releasedLost i st hs => exact hmod i _ _ rfl rfl rfl nofun
  | releasedStaged i st hs =>
    refine hmod i (fun r => { r with state := .inService .staged }) _ records_appendUrgent ?_ rfl
      nofun
    unfold State.appendUrgent
    split <;> rfl
  | retired i _ =>
    obtain ⟨_, _, _, _, _, _, _, e⟩ := s.purged_frame i
    rw [State.retire_eq]
    refine ⟨(pairWf_purged (i := i) hp).testRetired, State.AwaitsWf.testRetired
      (s := s.purged i) (ha.of_same ?_ (by rw [e]; rfl))⟩
    unfold State.purged
    split
    · rw [State.freeText_frame]; rfl
    · rfl
  | ringInserted i p _ _ _ _ =>
    exact hmod i (fun r => { r with ringCount := r.ringCount + 1 }) _ rfl rfl rfl id
  | ringRemoved i p _ =>
    exact hmod i (fun r => { r with ringCount := r.ringCount - 1 }) _ rfl rfl rfl id
  | pollQueued i _ _ _ => exact ⟨hsame _ rfl rfl, ha.of_same rfl rfl⟩
  | textQueued i b _ _ _ _ =>
    exact hmod i (fun r =>
      { r with outboundText := some b, retryCount := 0, cancelRequested := false }) _ rfl rfl rfl id
  | groupQueued a b _ _ _ => exact ⟨hsame _ rfl rfl, ha.of_same rfl rfl⟩
  | cursorMoved n hn => exact ⟨⟨hp.length, hp.counts, hp.texts, hn hp.cursor⟩, ha.of_same rfl rfl⟩
  | inboundReleased x rest h =>
    exact ⟨(pairWf_dropInbound x rest h hp).testRetired, (awaitsWf_dropInbound x rest h ha).testRetired⟩
  | passed h =>
    obtain ⟨_, _, _, _, _, rfl, _⟩ := h
    exact ⟨hsame _ rfl rfl, ha.of_same rfl rfl⟩
  | began x h _ hx =>
    have hx' := (h.startable x).mpr hx
    obtain ⟨_, _, _, _, _, rfl, _⟩ := h
    exact ⟨hsame _ rfl rfl, awaitsWf_beginExchange x hx' hw.ledger.addresses⟩
  | ended c i hc hi h _ =>
    rw [endContext_of_slot _ _ hi]
    have hne := ne_free_of_context hw.ledger.free hc hi
    refine ⟨State.PairWf.testRetired ?_, State.AwaitsWf.testRetired (awaitsWf_of_none rfl)⟩
    have hu := h.pairWf hw hne hp
    exact ⟨hu.length, hu.counts, hu.texts, hu.cursor⟩
  | dropped c b _ _ => exact ⟨hsame _ rfl rfl, awaitsWf_of_none rfl⟩
  | sent c b _ _ =>
    exact ⟨hsame _ (records_applySent b) (inbound_applySent b), awaitsWf_of_none rfl⟩

end

end Sys2Proof.Machine
end

section
namespace Sys2Proof.Machine

/-! ### The outbound buffers (R79, R85) -/

/-- The outbound buffers apart from the exchange in progress. -/
structure State.BuffersWf (s : State) : Prop where
  named : ∀ (b : BufferNo) (i : Slot),
    (s.record i).outboundText = some b ↔ s.buffers[b.val].isFor i = true
  nodup : s.groupQueue.Nodup
  queued : ∀ b : BufferNo, b ∈ s.groupQueue ↔ s.buffers[b.val].isGroup = true
  bounds : ∀ b : BufferNo, s.buffers[b.val].inBounds = true
  free : ∀ i : Slot, (s.record i).state = .free → (s.record i).outboundText = none
  retiring : ∀ i : Slot, (s.record i).state = .retiring → s.textFilled i = false

/-- What the exchange in progress has to do with the outbound buffers. -/
structure State.FlightWf (s : State) : Prop where
  inFlight : ∀ b : BufferNo, s.buffers[b.val].isInFlight = true →
    ∃ c ∈ s.context, ∃ i : Slot, c.exchange = .text i b
  text : ∀ c ∈ s.context, ∀ (i : Slot) (b : BufferNo), c.exchange = .text i b →
    (s.record i).outboundText = some b ∧ s.buffers[b.val].isInFlight = true
  group : ∀ c ∈ s.context, ∀ b : BufferNo, c.exchange = .group b → s.groupQueue.head? = some b

section
variable {s t : State} {i : Slot} {b : BufferNo}

theorem textWf_iff (h : s.BoundedWf) : s.TextWf ↔ s.BuffersWf ∧ s.FlightWf := by
  constructor
  · rintro ⟨h1, h2, h3, h4, h5, h6, h7, h8, h9, _⟩
    exact ⟨⟨h1, h2, h3, h4, h8, h9⟩, ⟨h5, h6, h7⟩⟩
  · rintro ⟨⟨h1, h2, h3, h4, h8, h9⟩, ⟨h5, h6, h7⟩⟩
    exact ⟨h1, h2, h3, h4, h5, h6, h7, h8, h9, fun i => (h i).noText⟩

theorem textFilled_of_some (h : (s.record i).outboundText = some b) :
    s.textFilled i = true ↔ ∃ o x, s.buffers[b.val] = .filled o x := by
  unfold State.textFilled
  rw [h]
  simp only
  split <;> simp_all

theorem textFilled_of_none (h : (s.record i).outboundText = none) : s.textFilled i = false := by
  unfold State.textFilled
  rw [h]

theorem textInFlight_of_some (h : (s.record i).outboundText = some b) :
    s.textInFlight i = s.buffers[b.val].isInFlight := by
  unfold State.textInFlight
  rw [h]
  simp only
  cases s.buffers[b.val] <;> rfl

/-- No record's text and no buffer changed. -/
theorem State.BuffersWf.of_same (hs : s.BuffersWf)
    (he : (t.buffers, t.groupQueue) = (s.buffers, s.groupQueue))
    (ho : ∀ j, (t.record j).outboundText = (s.record j).outboundText)
    (hf : ∀ j, (t.record j).state = .free → (s.record j).state = .free)
    (hr : ∀ j, (t.record j).state = .retiring →
      (s.record j).state = .retiring ∨ s.textFilled j = false) : t.BuffersWf := by
  simp only [Prod.mk.injEq] at he
  obtain ⟨hb, hg⟩ := he
  have htf : ∀ j, t.textFilled j = s.textFilled j := fun j => by simp only [State.textFilled, ho, hb]
  refine ⟨fun b j => ?_, by rw [hg]; exact hs.nodup, fun b => ?_, fun b => ?_, fun j hj => ?_,
    fun j hj => ?_⟩
  · rw [ho, hb]; exact hs.named b j
  · rw [hg, hb]; exact hs.queued b
  · rw [hb]; exact hs.bounds b
  · rw [ho]; exact hs.free j (hf j hj)
  · rw [htf]
    obtain h | h := hr j hj
    · exact hs.retiring j h
    · exact h

theorem State.FlightWf.of_context (hs : s.FlightWf)
    (he : (t.buffers, t.groupQueue) = (s.buffers, s.groupQueue))
    (ho : ∀ j, (t.record j).outboundText = (s.record j).outboundText)
    (hc : t.context.map Context.exchange = s.context.map Context.exchange) : t.FlightWf := by
  simp only [Prod.mk.injEq] at he
  obtain ⟨hb, hg⟩ := he
  have hx : ∀ x : Exchange, (∃ c ∈ t.context, c.exchange = x) ↔ ∃ c ∈ s.context, c.exchange = x := by
    intro x
    have := congrArg (x ∈ ·) hc
    simpa [Option.mem_def] using this
  refine ⟨fun b hf => ?_, fun c hm j b e => ?_, fun c hm b e => ?_⟩
  · rw [hb] at hf
    obtain ⟨c, hm, j, e⟩ := hs.inFlight b hf
    obtain ⟨c', hm', e'⟩ := (hx _).mpr ⟨c, hm, e⟩
    exact ⟨c', hm', j, e'⟩
  · obtain ⟨c', hm', e'⟩ := (hx _).mp ⟨c, hm, e⟩
    rw [ho, hb]; exact hs.text c' hm' j b e'
  · obtain ⟨c', hm', e'⟩ := (hx _).mp ⟨c, hm, e⟩
    rw [hg]; exact hs.group c' hm' b e'

/-- A fact of every slot, shown of one and of the others. -/
theorem forall_slot {p : Slot → Prop} (i : Slot) (hi : p i) (hj : ∀ j, j ≠ i → p j) (j : Slot) :
    p j := by
  by_cases e : j = i
  · exact e ▸ hi
  · exact hj j e

/-- A buffer is for one slot at most. -/
theorem OutBuffer.isFor_unique {x : OutBuffer} {i j : Slot} (hi : x.isFor i = true)
    (hj : x.isFor j = true) : i = j := by
  cases x with
  | free => cases hi
  | filled o y => simp only [OutBuffer.isFor, beq_iff_eq] at hi hj; exact hi.symm.trans hj
  | inFlight o y => simp only [OutBuffer.isFor, beq_iff_eq] at hi hj; exact hi.symm.trans hj
  | group a y n => cases hi

theorem State.BuffersWf.owner_unique (hs : s.BuffersWf) {j : Slot}
    (hi : (s.record i).outboundText = some b) (hj : (s.record j).outboundText = some b) : i = j :=
  OutBuffer.isFor_unique ((hs.named b i).mp hi) ((hs.named b j).mp hj)

/-- One text placed, freed or moved between FILLED and IN FLIGHT: the record of `i` and the buffer `b`, tied to each other or
both without a text before, are so after. -/
theorem State.BuffersWf.of_edit (hs : s.BuffersWf) (i : Slot) (b : BufferNo)
    (hj : ∀ j, j ≠ i → t.record j = s.record j)
    (hb : ∀ b' : BufferNo, b' ≠ b → t.buffers[b'.val] = s.buffers[b'.val])
    (hg : t.groupQueue = s.groupQueue)
    (h0 : (s.record i).outboundText = some b ∨
      ((s.record i).outboundText = none ∧ s.buffers[b.val] = .free))
    (h1 : ((t.record i).outboundText = some b ∧ t.buffers[b.val].isFor i = true ∧
        t.buffers[b.val].inBounds = true) ∨
      ((t.record i).outboundText = none ∧ t.buffers[b.val] = .free))
    (hf : (t.record i).state = .free → (t.record i).outboundText = none)
    (hr : (t.record i).state = .retiring → t.textFilled i = false) : t.BuffersWf := by
  have hng : s.buffers[b.val].isGroup = false := by
    obtain h | ⟨_, h⟩ := h0
    · have := (hs.named b i).mp h
      cases hx : s.buffers[b.val] <;> simp_all [OutBuffer.isFor, OutBuffer.isGroup]
    · rw [h]; rfl
  have hng' : t.buffers[b.val].isGroup = false := by
    obtain ⟨_, h, _⟩ | ⟨_, h⟩ := h1
    · cases hx : t.buffers[b.val] <;> simp_all [OutBuffer.isFor, OutBuffer.isGroup]
    · rw [h]; rfl
  have hother : ∀ j, j ≠ i → (s.record j).outboundText ≠ some b := by
    intro j hji e
    obtain h | ⟨_, h⟩ := h0
    · exact hji (hs.owner_unique e h)
    · have := (hs.named b j).mp e
      rw [h] at this; cases this
  have hbi : ∀ b' : BufferNo, b' ≠ b → s.buffers[b'.val].isFor i = false := by
    intro b' hb'
    by_contra hc
    have := (hs.named b' i).mpr (by simpa using hc)
    obtain h | ⟨h, _⟩ := h0
    · rw [h] at this; exact hb' (Option.some.inj this).symm
    · rw [h] at this; cases this
  refine ⟨fun b' j => ?_, by rw [hg]; exact hs.nodup, fun b' => ?_, fun b' => ?_, fun j hj' => ?_,
    fun j hj' => ?_⟩
  · by_cases eb : b' = b
    · subst eb
      by_cases ej : j = i
      · subst ej
        obtain ⟨ho, hi, _⟩ | ⟨ho, hi⟩ := h1
        · simp [ho, hi]
        · simp [ho, hi, OutBuffer.isFor]
      · rw [hj j ej]
        refine iff_of_false (hother j ej) fun hc => ?_
        obtain ⟨_, hi, _⟩ | ⟨_, hi⟩ := h1
        · exact ej (OutBuffer.isFor_unique hc hi)
        · rw [hi] at hc; cases hc
    · rw [hb b' eb]
      by_cases ej : j = i
      · subst ej
        refine iff_of_false (fun hc => ?_) (by simp [hbi b' eb])
        obtain ⟨ho, _⟩ | ⟨ho, _⟩ := h1
        · rw [ho] at hc; exact eb (Option.some.inj hc).symm
        · rw [ho] at hc; cases hc
      · rw [hj j ej]; exact hs.named b' j
  · rw [hg]
    by_cases eb : b' = b
    · subst eb; rw [hs.queued b', hng, hng']
    · rw [hb b' eb]; exact hs.queued b'
  · by_cases eb : b' = b
    · subst eb
      obtain ⟨_, _, h⟩ | ⟨_, h⟩ := h1
      · exact h
      · rw [h]; rfl
    · rw [hb b' eb]; exact hs.bounds b'
  · by_cases ej : j = i
    · subst ej; exact hf hj'
    · rw [hj j ej] at hj' ⊢; exact hs.free j hj'
  · by_cases ej : j = i
    · subst ej; exact hr hj'
    · rw [hj j ej] at hj'
      have := hs.retiring j hj'
      cases ho : (s.record j).outboundText with
      | none => exact textFilled_of_none (by rw [hj j ej]; exact ho)
      | some b' =>
        have eb : b' ≠ b := fun e => hother j ej (e ▸ ho)
        simp only [State.textFilled, hj j ej, ho, hb b' eb] at this ⊢
        exact this

theorem groupQueue_freeText : (s.freeText i).groupQueue = s.groupQueue := by
  rw [State.freeText_frame]

/-- A change of one record that leaves its text, and its state up to a move within service. -/
theorem State.BuffersWf.of_slot (hs : s.BuffersWf) (i : Slot)
    (he : (t.buffers, t.groupQueue) = (s.buffers, s.groupQueue))
    (hj : ∀ j, j ≠ i → t.record j = s.record j)
    (ho : (t.record i).outboundText = (s.record i).outboundText)
    (hf : (t.record i).state = .free → (s.record i).state = .free)
    (hr : (t.record i).state = .retiring →
      (s.record i).state = .retiring ∨ s.textFilled i = false) : t.BuffersWf :=
  hs.of_same he (forall_slot i ho fun j e => by rw [hj j e])
    (forall_slot i hf fun j e => by rw [hj j e]; exact id)
    (forall_slot i hr fun j e => by rw [hj j e]; exact .inl)

theorem State.BuffersWf.freeText (hs : s.BuffersWf) : (s.freeText i).BuffersWf := by
  have hrec := State.record_freeText_same s i
  have hne := fun j hj => State.record_freeText_ne s i j hj
  cases h : (s.record i).outboundText with
  | none =>
    refine hs.of_slot i ?_ hne ?_ ?_ ?_
    · rw [groupQueue_freeText, State.freeText_of_none _ _ h]; rfl
    · rw [hrec, h]
    · rw [hrec]; exact id
    · rw [hrec]; exact .inl
  | some b =>
    refine hs.of_edit i b hne (fun b' hb' => ?_) groupQueue_freeText (.inl h)
      (.inr ⟨by rw [hrec], ?_⟩) (fun _ => by rw [hrec]) fun _ => ?_
    · rw [buffers_freeText, h, if_neg (by simpa using Ne.symm hb')]
    · rw [buffers_freeText, if_pos h]
    · exact textFilled_of_none (by rw [hrec])

theorem OutBuffer.returned_isFor (x : OutBuffer) (i : Slot) : x.returned.isFor i = x.isFor i := by
  cases x <;> rfl

theorem OutBuffer.returned_inBounds (x : OutBuffer) : x.returned.inBounds = x.inBounds := by
  cases x <;> rfl

theorem State.BuffersWf.returnText (hs : s.BuffersWf) (hret : (s.record i).state ≠ .retiring) :
    (s.returnText i).BuffersWf := by
  have hrec := fun j => State.record_returnText s i j
  cases h : (s.record i).outboundText with
  | none =>
    have : s.returnText i = s := by simp [State.returnText, h]
    rw [this]; exact hs
  | some b =>
    have hbuf : (s.returnText i).buffers[b.val] = s.buffers[b.val].returned := by
      rw [buffers_returnText, if_pos h]
    refine hs.of_edit i b (fun j _ => hrec j) (fun b' hb' => ?_) (by rw [State.returnText_frame])
      (.inl h) (.inl ⟨by rw [hrec]; exact h, ?_, ?_⟩) (fun hf => ?_) fun hr => ?_
    · rw [buffers_returnText, h, if_neg (by simpa using Ne.symm hb')]
    · rw [hbuf, OutBuffer.returned_isFor]; exact (hs.named b i).mp h
    · rw [hbuf, OutBuffer.returned_inBounds]; exact hs.bounds b
    · rw [hrec] at hf ⊢; exact hs.free i hf
    · rw [hrec] at hr; exact absurd hr hret

theorem State.BuffersWf.raise (hs : s.BuffersWf) (r : Reason) : (s.raise i r).BuffersWf := by
  have hrec := State.record_raise_same s i r
  refine hs.of_slot i (by rw [State.raise_frame]) (fun j hj => State.record_raise_ne _ _ _ _ hj)
    (by rw [hrec]) ?_ ?_
  · rw [hrec]; exact id
  · rw [hrec]; exact .inl

theorem State.BuffersWf.turn (hs : s.BuffersWf) (f : Record → Record)
    (ht : (s.record i).Turns (f (s.record i))) : (s.modRecord i f).BuffersWf := by
  refine hs.of_slot i rfl (fun j hj => State.record_modRecord_ne _ _ _ _ hj) ?_ ?_ ?_
  all_goals rw [State.record_modRecord_same]
  · exact ht.outboundText
  · exact ht.keeps.state.free.mp
  · exact fun h => .inl (ht.keeps.state.retiring.mp h)

theorem State.BuffersWf.testRetired (hs : s.BuffersWf) : (s.testRetired i).BuffersWf := by
  unfold State.testRetired
  split
  · exact hs.raise _
  · exact hs

/-- The end of an exchange keeps each text with its record. -/
theorem Touches.buffersWf {G : Prop} (h : Touches G i s t) (hs : s.BuffersWf) : t.BuffersWf := by
  induction h with
  | refl => exact hs
  | turn f _ ht _ ih => exact ih.turn f ht
  | raise r _ _ _ ih => exact ih.raise r
  | @raiseFailed t c _ _ ih =>
    unfold State.raiseFailed
    split
    · refine (ih.raise .failed).of_slot i rfl (fun j hj => State.record_modRecord_ne _ _ _ _ hj) ?_ ?_ ?_
      all_goals rw [State.record_modRecord_same]
      · exact id
      · exact .inl
    · exact ih
  | freeText _ ih => exact ih.freeText
  | returnText _ hr ih => exact ih.returnText hr
  | store a x _ _ _ ih =>
    refine ih.of_slot i rfl (fun j hj => State.record_storeInbound_ne _ _ _ _ _ hj) ?_ ?_ ?_
    all_goals rw [State.record_storeInbound_same]
    · exact id
    · exact .inl
  | follow o _ ih => exact ⟨ih.named, ih.nodup, ih.queued, ih.bounds, ih.free, ih.retiring⟩

/-! ### The buffers and the exchange in progress (R51, R57, R59) -/

theorem flightWf_of_none (h : t.context = none) (hn : ∀ b : BufferNo, t.landed b) : t.FlightWf := by
  refine ⟨fun b hb => ?_, ?_, ?_⟩
  · rw [hn b] at hb; cases hb
  all_goals rw [h]; nofun

theorem State.FlightWf.landed_of_none (hs : s.FlightWf) (h : s.context = none) (b : BufferNo) :
    s.landed b := by
  by_contra hb
  obtain ⟨c, hc, _⟩ := hs.inFlight b (by simpa [State.landed] using hb)
  rw [h] at hc; cases hc

theorem State.FlightWf.landed_of_exchange (hs : s.FlightWf) {c : Context} (hc : s.context = some c)
    (hx : ∀ i, c.exchange ≠ .text i b) : s.landed b := by
  by_contra hb
  obtain ⟨c', hc', i, e⟩ := hs.inFlight b (by simpa [State.landed] using hb)
  obtain rfl : c = c' := by simpa [hc] using hc'
  exact hx i e

/-- A text freed that is not in flight leaves the exchange in progress alone. -/
theorem State.FlightWf.freeText (hs : s.FlightWf) (hf : s.textInFlight i = false) :
    (s.freeText i).FlightWf := by
  have hctx : (s.freeText i).context = s.context := by rw [State.freeText_frame]
  have hbuf := fun b => buffers_freeText (s := s) (i := i) b
  refine ⟨fun b hb => ?_, fun c hc j b e => ?_, fun c hc b e => ?_⟩
  · rw [hbuf] at hb
    rw [hctx]
    split at hb
    · cases hb
    · exact hs.inFlight b hb
  · rw [hctx] at hc
    obtain ⟨ho, hfl⟩ := hs.text c hc j b e
    have hij : (s.record i).outboundText ≠ some b := fun hi => by
      rw [textInFlight_of_some hi, hfl] at hf; cases hf
    have hne : j ≠ i := fun e => hij (e ▸ ho)
    rw [State.record_freeText_ne _ _ _ hne, hbuf, if_neg hij]
    exact ⟨ho, hfl⟩
  · rw [hctx] at hc
    rw [groupQueue_freeText]
    exact hs.group c hc b e

theorem State.FlightWf.of_same (hs : s.FlightWf)
    (he : (t.buffers, t.groupQueue, t.context) = (s.buffers, s.groupQueue, s.context))
    (ho : ∀ j, (t.record j).outboundText = (s.record j).outboundText) : t.FlightWf := by
  simp only [Prod.mk.injEq] at he
  obtain ⟨h1, h2, h3⟩ := he
  exact hs.of_context (by rw [h1, h2]) ho (by rw [h3])

theorem State.FlightWf.testRetired (hs : s.FlightWf) : (s.testRetired i).FlightWf := by
  refine hs.of_same (by rw [State.testRetired_frame]) (forall_slot i ?_ fun j hj => ?_)
  · rw [State.record_testRetired_same]
  · rw [State.record_testRetired_ne _ _ _ hj]

theorem textInFlight_of_textFilled (h : s.textFilled i = true) : s.textInFlight i = false := by
  cases ho : (s.record i).outboundText with
  | none => simp [State.textInFlight, ho]
  | some b =>
    obtain ⟨o, x, hx⟩ := (textFilled_of_some ho).mp h
    rw [textInFlight_of_some ho, hx]; rfl

theorem groupQueue_purged : (s.purged i).groupQueue = s.groupQueue := by
  unfold State.purged
  split
  · exact groupQueue_freeText
  · rfl

theorem buffers_purged (b : BufferNo) : (s.purged i).buffers[b.val] =
    if s.textFilled i = true ∧ (s.record i).outboundText = some b then .free
    else s.buffers[b.val] := by
  unfold State.purged
  split
  · next h =>
    rw [buffers_freeText, State.record_unlisted_same]
    simp only [Record.retired, h, true_and]
    rfl
  · next h => exact (if_neg fun hc => h hc.1).symm

/-- A record retired keeps a text in flight alone (R21). -/
theorem buffersWf_purged (hs : s.BuffersWf) : (s.purged i).BuffersWf := by
  have hrec := State.record_purged_same s i
  have hne := fun j hj => State.record_purged_ne s i j hj
  cases hf : s.textFilled i with
  | false =>
    rw [hf, if_neg (by simp)] at hrec
    have hbuf : (s.purged i).buffers = s.buffers := by
      unfold State.purged
      rw [hf, if_neg (by simp)]; rfl
    refine hs.of_slot i (by rw [hbuf, groupQueue_purged]) hne (by rw [hrec]; rfl) ?_ fun _ => .inr hf
    rw [hrec]; nofun
  | true =>
    rw [hf, if_pos rfl] at hrec
    cases ho : (s.record i).outboundText with
    | none => rw [textFilled_of_none ho] at hf; cases hf
    | some b =>
      refine hs.of_edit i b hne (fun b' hb' => ?_) groupQueue_purged (.inl ho)
        (.inr ⟨by rw [hrec]; rfl, ?_⟩) (fun _ => by rw [hrec]; rfl)
        fun _ => textFilled_of_none (by rw [hrec]; rfl)
      · rw [buffers_purged, ho, if_neg (by simpa using fun _ => Ne.symm hb')]
      · rw [buffers_purged, if_pos ⟨hf, ho⟩]

theorem flightWf_purged (hs : s.FlightWf) : (s.purged i).FlightWf := by
  have hu : (s.unlisted i).FlightWf := by
    refine hs.of_same rfl (forall_slot i ?_ fun j hj => ?_)
    · rw [State.record_unlisted_same]; rfl
    · rw [State.record_unlisted_ne _ _ _ hj]
  unfold State.purged
  split
  · next h =>
    refine hu.freeText ?_
    have : (s.unlisted i).textInFlight i = s.textInFlight i := by
      simp only [State.textInFlight, State.record_unlisted_same]; rfl
    rw [this]
    exact textInFlight_of_textFilled h
  · exact hu

theorem buffers_set (x : OutBuffer) (b b' : BufferNo) :
    (s.buffers.set b.val x b.isLt)[b'.val] = if b' = b then x else s.buffers[b'.val] := by
  simp only [Vector.getElem_set, Fin.ext_iff, eq_comm (a := b.val)]

theorem free_of_lowestFreeBuffer (h : s.lowestFreeBuffer = some b) : s.buffers[b.val] = .free := by
  simpa using ((find_finRange_eq_some _ _).mp h).1

/-- A text queued for a record without one, in a FREE buffer (R82). -/
theorem buffersWf_queued (hs : s.BuffersWf) (x : OutBuffer)
    (hrec : t.records = (s.modRecord i fun r =>
      { r with outboundText := some b, retryCount := 0, cancelRequested := false }).records)
    (hbuf : t.buffers = s.buffers.set b.val x b.isLt) (hg : t.groupQueue = s.groupQueue)
    (he : (s.record i).state.isEnlisted = true) (ho : (s.record i).outboundText = none)
    (hb : s.buffers[b.val] = .free) (hx : x.isFor i = true) (hin : x.inBounds = true) :
    t.BuffersWf := by
  obtain ⟨hi, hj⟩ := record_of_records hrec
  obtain ⟨hnf, hnr⟩ := (Lifecycle.isEnlisted_iff _).mp he
  have hbb := fun b' => buffers_set (s := s) x b b'
  refine hs.of_edit i b hj (fun b' hb' => ?_) hg (.inr ⟨ho, hb⟩) (.inl ⟨by rw [hi], ?_, ?_⟩)
    (fun hf => ?_) fun hr => ?_
  · rw [hbuf, hbb, if_neg hb']
  · rw [hbuf, hbb, if_pos rfl]; exact hx
  · rw [hbuf, hbb, if_pos rfl]; exact hin
  · rw [hi] at hf; exact absurd hf hnf
  · rw [hi] at hr; exact absurd hr hnr

theorem flightWf_queued (hs : s.FlightWf) (x : OutBuffer)
    (hrec : t.records = (s.modRecord i fun r =>
      { r with outboundText := some b, retryCount := 0, cancelRequested := false }).records)
    (hbuf : t.buffers = s.buffers.set b.val x b.isLt) (hg : t.groupQueue = s.groupQueue)
    (hc : t.context = s.context) (ho : (s.record i).outboundText = none)
    (hb : s.buffers[b.val] = .free) (hx : x.isInFlight = false) : t.FlightWf := by
  obtain ⟨_, hj⟩ := record_of_records hrec
  have hbb := fun b' => buffers_set (s := s) x b b'
  refine ⟨fun b' hb' => ?_, fun c hm j b' e => ?_, fun c hm b' e => ?_⟩
  · rw [hbuf, hbb] at hb'
    rw [hc]
    split at hb'
    · rw [hx] at hb'; cases hb'
    · exact hs.inFlight b' hb'
  · rw [hc] at hm
    obtain ⟨h1, h2⟩ := hs.text c hm j b' e
    have hji : j ≠ i := fun e => by rw [e, ho] at h1; cases h1
    have hbb' : b' ≠ b := fun e => by rw [e, hb] at h2; cases h2
    rw [hj j hji, hbuf, hbb, if_neg hbb']
    exact ⟨h1, h2⟩
  · rw [hc] at hm
    rw [hg]
    exact hs.group c hm b' e

/-- A group text queued in a FREE buffer (R84). -/
theorem State.BuffersWf.groupQueued (hs : s.BuffersWf) (x : OutBuffer)
    (hrec : t.records = s.records) (hbuf : t.buffers = s.buffers.set b.val x b.isLt)
    (hg : t.groupQueue = s.groupQueue ++ [b]) (hb : s.buffers[b.val] = .free)
    (hx : x.isGroup = true) (hin : x.inBounds = true) : t.BuffersWf := by
  have hr := State.record_congr t s hrec
  have hbb := fun b' => buffers_set (s := s) x b b'
  have hfor : ∀ j, x.isFor j = false := fun j => by
    cases x with
    | group _ _ _ => rfl
    | free | filled _ _ | inFlight _ _ => cases hx
  have hnq : b ∉ s.groupQueue := fun hm => by
    have := (hs.queued b).mp hm
    rw [hb] at this; cases this
  refine ⟨fun b' j => ?_, ?_, fun b' => ?_, fun b' => ?_, fun j => ?_, fun j hj => ?_⟩
  · rw [hr, hbuf, hbb]
    split
    · next e =>
      have := hs.named b' j
      rw [e, hb] at this
      rw [e, this, hfor]; rfl
    · exact hs.named b' j
  · rw [hg]
    exact List.nodup_append.mpr ⟨hs.nodup, by simp, by
      rintro a ha c hc rfl
      rw [List.mem_singleton.mp hc] at ha
      exact hnq ha⟩
  · rw [hg, hbuf, hbb, List.mem_append, List.mem_singleton, hs.queued b']
    split
    · next e => simp [e, hx]
    · next e => simp [e]
  · rw [hbuf, hbb]
    split
    · exact hin
    · exact hs.bounds b'
  · rw [hr]; exact hs.free j
  · rw [hr] at hj
    have := hs.retiring j hj
    cases ho : (s.record j).outboundText with
    | none => exact textFilled_of_none (by rw [hr]; exact ho)
    | some b' =>
      have hne : b' ≠ b := fun e => by
        have := (hs.named b' j).mp ho
        rw [e, hb] at this; cases this
      simp only [State.textFilled, hr, ho, hbuf, hbb, if_neg hne] at this ⊢
      exact this

theorem State.FlightWf.groupQueued (hs : s.FlightWf) (x : OutBuffer)
    (hrec : t.records = s.records) (hbuf : t.buffers = s.buffers.set b.val x b.isLt)
    (hg : t.groupQueue = s.groupQueue ++ [b]) (hc : t.context = s.context)
    (hb : s.buffers[b.val] = .free) (hx : x.isInFlight = false) : t.FlightWf := by
  have hr := State.record_congr t s hrec
  have hbb := fun b' => buffers_set (s := s) x b b'
  refine ⟨fun b' hb' => ?_, fun c hm j b' e => ?_, fun c hm b' e => ?_⟩
  · rw [hbuf, hbb] at hb'
    rw [hc]
    split at hb'
    · rw [hx] at hb'; cases hb'
    · exact hs.inFlight b' hb'
  · rw [hc] at hm
    obtain ⟨h1, h2⟩ := hs.text c hm j b' e
    have hbb' : b' ≠ b := fun e => by rw [e, hb] at h2; cases h2
    rw [hr, hbuf, hbb, if_neg hbb']
    exact ⟨h1, h2⟩
  · rw [hc] at hm
    have := hs.group c hm b' e
    rw [hg, List.head?_append, this]; rfl

/-- A GROUP exchange ended SENT: one repeat less, or the buffer freed and off the queue (R74). -/
theorem State.BuffersWf.applySent (hs : s.BuffersWf) : (s.applySent b).BuffersWf := by
  have hr := State.record_congr _ _ (records_applySent (s := s) b)
  unfold State.applySent at hr ⊢
  split
  case h_1 o x n hb =>
    have hgrp : s.buffers[b.val].isGroup = true := by rw [hb]; rfl
    have hown : ∀ j, (s.record j).outboundText ≠ some b := fun j e => by
      have := (hs.named b j).mp e
      rw [hb] at this; cases this
    have hedit : ∀ (u : State) (y : OutBuffer), u.records = s.records →
        u.buffers = s.buffers.set b.val y b.isLt → (∀ j, y.isFor j = false) → y.inBounds = true →
        u.groupQueue.Nodup →
        (∀ b', b' ∈ u.groupQueue ↔
          (if b' = b then y else s.buffers[b'.val]).isGroup = true) → u.BuffersWf := by
      intro u y hur hub hyf hyb hun huq
      have hr := State.record_congr u s hur
      have hbb := fun b' => buffers_set (s := s) y b b'
      refine ⟨fun b' j => ?_, hun, fun b' => ?_, fun b' => ?_, fun j => ?_, fun j hj => ?_⟩
      · rw [hr, hub, hbb]
        split
        · next e => rw [e]; exact iff_of_false (hown j) (by simp [hyf])
        · exact hs.named b' j
      · rw [hub, hbb]; exact huq b'
      · rw [hub, hbb]
        split
        · exact hyb
        · exact hs.bounds b'
      · rw [hr]; exact hs.free j
      · rw [hr] at hj
        have := hs.retiring j hj
        cases ho : (s.record j).outboundText with
        | none => exact textFilled_of_none (by rw [hr]; exact ho)
        | some b' =>
          have hne : b' ≠ b := fun e => hown j (e ▸ ho)
          simp only [State.textFilled, hr, ho, hub, hbb, if_neg hne] at this ⊢
          exact this
    split
    · refine hedit _ .free rfl rfl (fun _ => rfl) rfl (hs.nodup.filter _) fun b' => ?_
      show b' ∈ s.groupQueue.filter (· != b) ↔ _
      rw [List.mem_filter, hs.queued]
      split
      · next e => simp [e, OutBuffer.isGroup]
      · next e => simp [e]
    · next hn =>
      refine hedit _ (.group o x (n - 1)) rfl rfl (fun _ => rfl) ?_ hs.nodup fun b' => ?_
      · have := hs.bounds b
        rw [hb] at this
        simp only [OutBuffer.inBounds, Bool.and_eq_true, decide_eq_true_eq] at this ⊢
        omega
      · rw [hs.queued]
        split
        · next e => rw [e, hgrp]; exact ⟨fun _ => rfl, fun _ => rfl⟩
        · rfl
  all_goals exact hs

theorem landed_applySent {b' : BufferNo} (h : s.landed b') : (s.applySent b).landed b' := by
  unfold State.applySent
  split
  case h_1 o x n hb =>
    have : ∀ y : OutBuffer, y.isInFlight = false →
        (s.buffers.set b.val y b.isLt)[b'.val].isInFlight = false := by
      intro y hy
      rw [buffers_set]
      split
      · exact hy
      · exact h
    split
    · exact this .free rfl
    · exact this _ rfl
  all_goals exact h

/-- The exchange begun takes a FILLED text into flight, or stands at the head of the group queue (R57, R59). -/
theorem State.BuffersWf.beginExchange (hs : s.BuffersWf) (x : Exchange) (hx : s.Startable x) :
    (s.beginExchange x).BuffersWf := by
  cases x with
  | text i b =>
    obtain ⟨ho, hf⟩ := hx.2.1 i b rfl
    obtain ⟨o, y, hy⟩ := (textFilled_of_some ho).mp hf
    have hin := hx.1 i rfl
    have hbuf : (s.beginExchange (.text i b)).buffers =
        s.buffers.set b.val s.buffers[b.val].takeFlight b.isLt := rfl
    have hrec : (s.beginExchange (.text i b)).record i = s.record i := rfl
    refine hs.of_edit i b (fun _ _ => rfl) (fun b' hb' => ?_) rfl (.inl ho) (.inl ⟨ho, ?_, ?_⟩)
      (fun hf => ?_) fun hr => ?_
    · rw [hbuf, buffers_set, if_neg hb']
    · have := (hs.named b i).mp ho
      rw [hbuf, buffers_set, if_pos rfl, hy]
      rw [hy] at this; exact this
    · have := hs.bounds b
      rw [hbuf, buffers_set, if_pos rfl, hy]
      rw [hy] at this; exact this
    · exact absurd hf (Lifecycle.ne_free_of_isInService hin)
    · rw [hrec] at hr; rw [hr] at hin; cases hin
  | poll i => exact ⟨hs.named, hs.nodup, hs.queued, hs.bounds, hs.free, hs.retiring⟩
  | sync i => exact ⟨hs.named, hs.nodup, hs.queued, hs.bounds, hs.free, hs.retiring⟩
  | group b => exact ⟨hs.named, hs.nodup, hs.queued, hs.bounds, hs.free, hs.retiring⟩

theorem flightWf_beginExchange (x : Exchange) (hx : s.Startable x) (hn : ∀ b, s.landed b) :
    (s.beginExchange x).FlightWf := by
  have hc : ∀ c ∈ (s.beginExchange x).context, c.exchange = x := by
    intro c hc
    obtain rfl : s.composeContext x = c := Option.some.inj hc
    cases x <;> rfl
  have hin : ∃ c ∈ (s.beginExchange x).context, c.exchange = x :=
    ⟨_, rfl, hc _ rfl⟩
  refine ⟨fun b hb => ?_, fun c hm i b e => ?_, fun c hm b e => ?_⟩
  · cases x with
    | text i b' =>
      have hbuf : (s.beginExchange (.text i b')).buffers =
        s.buffers.set b'.val s.buffers[b'.val].takeFlight b'.isLt := rfl
      rw [hbuf, buffers_set] at hb
      split at hb
      · next e =>
        obtain ⟨c, hm, hce⟩ := hin
        exact ⟨c, hm, i, by rw [hce, e]⟩
      · have := hn b
        rw [State.landed, hb] at this; cases this
    | poll i => have := hn b; rw [State.landed] at this; exact absurd (this.symm.trans hb) (by simp)
    | sync i => have := hn b; rw [State.landed] at this; exact absurd (this.symm.trans hb) (by simp)
    | group b' => have := hn b; rw [State.landed] at this; exact absurd (this.symm.trans hb) (by simp)
  · rw [hc c hm] at e
    subst e
    obtain ⟨ho, hf⟩ := hx.2.1 i b rfl
    obtain ⟨o, y, hy⟩ := (textFilled_of_some ho).mp hf
    have hbuf : (s.beginExchange (.text i b)).buffers =
        s.buffers.set b.val s.buffers[b.val].takeFlight b.isLt := rfl
    refine ⟨ho, ?_⟩
    rw [hbuf, buffers_set, if_pos rfl, hy]; rfl
  · rw [hc c hm] at e
    exact hx.2.2 b e

end

end Sys2Proof.Machine
end

section
namespace Sys2Proof.Machine

/-! ### Every act keeps the outbound buffers, and the whole ledger (R79, R85) -/

section
variable {s t : State} {i : Slot} {b : BufferNo}

/-- What the outbound buffers have to do with the records and with the exchange in progress. -/
def State.StoreWf (s : State) : Prop := s.BuffersWf ∧ s.FlightWf

/-- A change of one record that leaves its text and does not retire it. -/
theorem State.StoreWf.of_slot (hs : s.StoreWf) (i : Slot)
    (he : (t.buffers, t.groupQueue, t.context) = (s.buffers, s.groupQueue, s.context))
    (hj : ∀ j, j ≠ i → t.record j = s.record j)
    (ho : (t.record i).outboundText = (s.record i).outboundText)
    (hf : (t.record i).state = .free → (s.record i).state = .free)
    (hr : (t.record i).state = .retiring → (s.record i).state = .retiring) : t.StoreWf := by
  have he' := he
  simp only [Prod.mk.injEq] at he'
  obtain ⟨hb, hg, _⟩ := he'
  exact ⟨hs.1.of_slot i (by rw [hb, hg]) hj ho hf fun h => .inl (hr h),
    hs.2.of_same he (forall_slot i ho fun j e => by rw [hj j e])⟩

theorem State.StoreWf.of_modRecord (hs : s.StoreWf) {f : Record → Record}
    (hrec : t.records = (s.modRecord i f).records)
    (he : (t.buffers, t.groupQueue, t.context) = (s.buffers, s.groupQueue, s.context))
    (ho : (f (s.record i)).outboundText = (s.record i).outboundText)
    (hf : (f (s.record i)).state = .free → (s.record i).state = .free)
    (hr : (f (s.record i)).state = .retiring → (s.record i).state = .retiring) : t.StoreWf := by
  obtain ⟨hi, hj⟩ := record_of_records hrec
  exact hs.of_slot i he hj (by rw [hi]; exact ho) (by rw [hi]; exact hf) (by rw [hi]; exact hr)

theorem State.StoreWf.of_records (hs : s.StoreWf) (hrec : t.records = s.records)
    (he : (t.buffers, t.groupQueue, t.context) = (s.buffers, s.groupQueue, s.context)) :
    t.StoreWf := by
  have h := State.record_congr t s hrec
  exact hs.of_slot ⟨0, by decide⟩ he (fun j _ => h j) (by rw [h]) (by rw [h]; exact id)
    (by rw [h]; exact id)

theorem State.StoreWf.testRetired (hs : s.StoreWf) : (s.testRetired i).StoreWf :=
  ⟨hs.1.testRetired, hs.2.testRetired⟩

theorem store_appendUrgent : ((s.appendUrgent i).buffers, (s.appendUrgent i).groupQueue,
    (s.appendUrgent i).context) = (s.buffers, s.groupQueue, s.context) := by
  unfold State.appendUrgent
  split <;> rfl

/-- A text cancelled that is not in flight (R86). -/
theorem State.StoreWf.cancelFilled (hs : s.StoreWf) (hf : s.textInFlight i = false) :
    (s.cancelFilled i).StoreWf := by
  have h : (s.freeText i).StoreWf := ⟨hs.1.freeText, hs.2.freeText hf⟩
  unfold State.cancelFilled
  split
  · exact h
  · exact h.of_modRecord (f := fun r => { r with resyncPending := true }) rfl rfl rfl id id

/-- The end of an exchange with a slot lands its text and leaves every other where it was (R52, R62). -/
theorem State.StoreWf.ended {G : Prop} {u : State} {c : Context} (hs : s.StoreWf)
    (hc : s.context = some c) (hi : c.exchange.slot? = some i) (h : Touches G i s u)
    (hf : ∀ b, c.exchange = .text i b → u.landed b) : State.StoreWf { u with context := none } := by
  have hu := h.buffersWf hs.1
  refine ⟨⟨hu.named, hu.nodup, hu.queued, hu.bounds, hu.free, hu.retiring⟩,
    flightWf_of_none rfl fun b => ?_⟩
  by_cases e : c.exchange = .text i b
  · exact hf b e
  · refine h.landed (hs.2.landed_of_exchange hc fun j ej => e ?_)
    rw [ej] at hi
    rw [ej, Option.some.inj hi]

/-- The end of a GROUP exchange, in which no text is in flight. -/
theorem State.StoreWf.landed_of_group (hs : s.StoreWf) {c : Context} (hc : s.context = some c)
    (hb : c.exchange = .group b) (b' : BufferNo) : s.landed b' :=
  hs.2.landed_of_exchange hc fun j e => by rw [hb] at e; cases e

/-- A text placed is not longer than the staging buffer, and not empty (R77, R82). -/
theorem inBounds_staging (hx : s.staging ≠ []) (hl : s.staging.length ≤ 128) :
    1 ≤ s.staging.length ∧ s.staging.length ≤ 128 :=
  ⟨List.length_pos_iff.mpr hx, hl⟩

theorem State.BaseWf.storeWf (h : s.BaseWf) : s.StoreWf :=
  (textWf_iff h.boundedWf).mp h.ledger.texts

theorem outboundText_of_free (hw : s.FreeWf) (h : (s.record i).state = .free) :
    (s.record i).outboundText = none := by
  rw [(hw i h).1]; rfl

theorem Act.storeWf (h : Act s t) (hw : s.BaseWf) : t.StoreWf := by
  have hs := hw.storeWf
  cases h with
  | idle => exact hs
  | whollySent =>
    refine ⟨hs.1.of_same rfl (fun _ => rfl) (fun _ => id) fun _ => .inl,
      hs.2.of_context rfl (fun _ => rfl) ?_⟩
    cases s.context <;> rfl
  | turned i f _ _ hf _ =>
    exact hs.of_modRecord rfl rfl hf.outboundText hf.keeps.state.free.mp hf.keeps.state.retiring.mp
  | readdressed i v k _ _ _ => exact hs.of_modRecord rfl rfl rfl id id
  | cancelled i _ hf => exact hs.cancelFilled hf
  | entered i a g q _ _ _ hi =>
    have hfree : (s.record i).state = .free := by
      simpa using ((find_finRange_eq_some _ _).mp hi).1
    refine hs.of_modRecord (i := i) (f := fun _ => admittedRecord a g q) records_appendUrgent
      store_appendUrgent ?_ nofun nofun
    rw [outboundText_of_free hw.ledger.free hfree]; rfl
  | held i st _ =>
    exact hs.of_modRecord (i := i) (f := fun r => { r with state := .held st }) rfl rfl rfl nofun nofun
  | releasedActive i st _ => exact hs.of_modRecord rfl rfl rfl nofun nofun
  | releasedLost i st _ => exact hs.of_modRecord rfl rfl rfl nofun nofun
  | releasedStaged i st _ =>
    exact hs.of_modRecord (i := i) (f := fun r => { r with state := .inService .staged })
      records_appendUrgent store_appendUrgent rfl nofun nofun
  | retired i _ =>
    rw [State.retire_eq]
    exact State.StoreWf.testRetired (s := s.purged i) ⟨buffersWf_purged hs.1, flightWf_purged hs.2⟩
  | ringInserted i p _ _ _ _ =>
    exact hs.of_modRecord (i := i) (f := fun r => { r with ringCount := r.ringCount + 1 }) rfl rfl rfl
      id id
  | ringRemoved i p _ =>
    exact hs.of_modRecord (i := i) (f := fun r => { r with ringCount := r.ringCount - 1 }) rfl rfl rfl
      id id
  | pollQueued i _ _ _ => exact hs.of_records rfl rfl
  | textQueued i b he ho hb hx =>
    have hfree := free_of_lowestFreeBuffer hb
    obtain ⟨h1, h2⟩ := inBounds_staging hx hw.staging
    refine ⟨buffersWf_queued hs.1 _ rfl rfl rfl he ho hfree (beq_self_eq_true i) ?_,
      flightWf_queued hs.2 _ rfl rfl rfl rfl ho hfree rfl⟩
    simp [OutBuffer.inBounds, h1, h2]
  | groupQueued a b ha hb hx =>
    have hfree := free_of_lowestFreeBuffer hb
    obtain ⟨h1, h2⟩ := inBounds_staging hx hw.staging
    obtain ⟨_, _, _, _, _, _, _, _, _, _, hg1, hg3⟩ := hw.params
    refine ⟨hs.1.groupQueued _ rfl rfl rfl hfree rfl ?_,
      hs.2.groupQueued _ rfl rfl rfl rfl hfree rfl⟩
    have ha' : 240 ≤ a.toNat := by simpa [isGroupAddress] using ha
    simp [OutBuffer.inBounds, h1, h2, hg1, hg3, ha']
  | cursorMoved n _ => exact hs.of_records rfl rfl
  | inboundReleased x rest _ =>
    exact State.StoreWf.testRetired (hs.of_modRecord (i := x.slot)
      (f := fun r => { r with inboundCount := r.inboundCount - 1 }) rfl rfl rfl id id)
  | passed h =>
    obtain ⟨_, _, _, _, _, rfl, _⟩ := h
    exact hs.of_records rfl rfl
  | @began r x h he hx =>
    have hn : s.context = none := by
      have := hw.context
      rw [State.ContextWf, he] at this
      exact Option.not_isSome_iff_eq_none.mp (by rw [this]; nofun)
    have hr : r.StoreWf ∧ r.context = none := by
      obtain ⟨_, _, _, _, _, rfl, _⟩ := h
      exact ⟨hs.of_records rfl rfl, hn⟩
    have hx' := (h.startable x).mpr hx
    exact ⟨hr.1.1.beginExchange x hx', flightWf_beginExchange x hx' (hr.1.2.landed_of_none hr.2)⟩
  | ended c i hc hi h hf =>
    rw [endContext_of_slot _ _ hi]
    exact (hs.ended hc hi h (hf hw)).testRetired
  | dropped c b hc hb =>
    exact ⟨hs.1.of_same rfl (fun _ => rfl) (fun _ => id) fun _ => .inl,
      flightWf_of_none rfl (hs.landed_of_group hc hb)⟩
  | sent c b hc hb =>
    have h := hs.1.applySent (b := b)
    exact ⟨⟨h.named, h.nodup, h.queued, h.bounds, h.free, h.retiring⟩,
      flightWf_of_none rfl fun b' => landed_applySent (hs.landed_of_group hc hb b')⟩

theorem Act.textWf (h : Act s t) (hw : s.BaseWf) : t.TextWf :=
  (textWf_iff (h.boundedWf hw)).mpr (h.storeWf hw)

/-- Every act keeps the ledger's part of the invariant. -/
theorem Act.ledgerWf (h : Act s t) (hw : s.BaseWf) : t.LedgerWf where
  free := h.freeWf hw
  retired := retiredLaw.act h hw.ledger.retired
  records := (boundedWf_iff.mp (h.boundedWf hw)).1
  ring := h.ringWf hw.ledger.ring
  urgent := h.urgentWf hw.ledger.urgent
  attention := attentionLaw.act h hw.ledger.attention
  inbound := h.inboundWf hw
  texts := h.textWf hw
  addresses := h.addressWf hw

end

end Sys2Proof.Machine
end

section
namespace Sys2Proof.Machine

/-! ### The ledger's part of the invariant under every command -/

section
variable {s t : State} {i : Slot}

theorem State.LedgerWf.congr (h : s.LedgerWf) (e : t.ledger = s.ledger) : t.LedgerWf := by
  cases s
  cases t
  simp only [State.ledger, Ledger.mk.injEq] at e
  obtain ⟨rfl, rfl, rfl, rfl, rfl, rfl, rfl, rfl, rfl, rfl⟩ := e
  obtain ⟨h1, h2, h3, h4, h5, h6, h7, h8, h9⟩ := h
  exact ⟨h1, h2, h3, h4, h5, h6, h7, h8, h9⟩

theorem State.BaseWf.congr (h : s.BaseWf) (e : SameBase s t) : t.BaseWf := by
  obtain ⟨e1, e2, e3, e4, e5⟩ := e
  have hc : t.context = s.context := congrArg Ledger.context e1
  exact ⟨h.ledger.congr e1, by rw [e2]; exact h.params, by rw [e3, e4]; exact h.receiver,
    by rw [State.ContextWf, hc, e4]; exact h.context, by rw [e5]; exact h.staging⟩

theorem Reaches.ledgerWf (h : Reaches s t) (hw : s.BaseWf) : t.LedgerWf := by
  obtain ⟨r, u, hr, hu, e⟩ := h
  exact (hu.ledgerWf (hw.congr hr)).congr e

theorem State.Wf.base (h : s.Wf) : s.BaseWf := by
  obtain ⟨hp, hf, hret, hrec, hring, hurg, _, hatt, hin, htx, heng, hrx, had, hport⟩ := h
  exact ⟨⟨hf, hret, hrec, hring, hurg, hatt, hin, htx, had⟩, hp, hrx, heng.1, hport.1⟩

/-! ### An empty table (R2, R26, R177) -/

/-- Every list, record and buffer empty, and no exchange in progress. -/
structure State.Empty (s : State) : Prop where
  records : ∀ j, s.record j = Record.free
  buffers : ∀ b : BufferNo, s.buffers[b.val] = .free
  lists : (s.ring, s.ringCursor, s.urgent, s.attention) = ([], 0, [], [])
  texts : (s.groupQueue, s.inbound, s.inboundCursor) = ([], [], 0)
  context : s.context = none

theorem State.Empty.ledgerWf (h : s.Empty) : s.LedgerWf := by
  obtain ⟨hr, hb, hl, ht, hc⟩ := h
  simp only [Prod.mk.injEq] at hl ht
  obtain ⟨h1, h2, h3, h4⟩ := hl
  obtain ⟨h5, h6, h7⟩ := ht
  refine ⟨fun j _ => ⟨hr j, ?_⟩, fun j hj => ?_, fun j => ?_, ringWf_of_free hr h1 h2,
    urgentWf_nil h3, attentionWf_of_free hr h4, ?_, ?_, fun j _ hj => ?_, fun j hj => ?_⟩
  · simp [State.contextNames, hc]
  · rw [hr] at hj; cases hj
  · rw [hr]; exact ⟨by decide, by decide, nofun, nofun, by decide⟩
  · rw [State.InboundWf, h6, h7, hc]
    exact ⟨by simp, fun j => by rw [hr]; rfl, nofun, by simp, nofun, nofun⟩
  · rw [State.TextWf, h5, hc]
    refine ⟨fun b j => ?_, by simp, fun b => ?_, fun b => ?_, fun b hf => ?_, nofun, nofun,
      fun j _ => ?_, fun j hj => ?_, fun j _ => ?_⟩
    · rw [hr, hb]; exact iff_of_false nofun nofun
    · rw [hb]; exact iff_of_false nofun nofun
    · rw [hb]; rfl
    · rw [hb] at hf; cases hf
    · rw [hr]; rfl
    · rw [hr] at hj; cases hj
    · rw [hr]; exact ⟨rfl, rfl⟩
  · rw [hr] at hj; exact absurd rfl hj
  · rw [hr] at hj; exact absurd rfl hj

theorem empty_reset : State.reset.Empty :=
  ⟨record_reset, fun b => by simp [State.reset], rfl, rfl, rfl⟩

theorem empty_emptyTable (hc : s.context = none) : s.emptyTable.Empty :=
  ⟨record_emptyTable, fun b => by simp [State.emptyTable], rfl, rfl, hc⟩

theorem context_of_engine (h : s.ContextWf) (he : s.engine.inExchange = false) :
    s.context = none := by
  rw [State.ContextWf, he] at h
  exact Option.not_isSome_iff_eq_none.mp (by rw [h]; nofun)

theorem ledgerWf_tableReset (args : List Octet) (hw : s.BaseWf) :
    (tableReset args s).state.LedgerWf := by
  unfold tableReset
  split
  · next he => exact (empty_emptyTable (context_of_engine hw.context (by rw [he]; rfl))).ledgerWf
  · exact hw.ledger

/-! ### The reasons taken (R23, R101) -/

/-- The state after NEXT ATTENTION took the reasons of `i`. -/
def State.taken (s : State) (i : Slot) (rest : List Slot) : State :=
  { s.setRecord i (takenRecord (s.record i)) with attention := rest }

variable {rest : List Slot}

theorem record_taken_ne {j : Slot} (h : j ≠ i) : (s.taken i rest).record j = s.record j :=
  (State.record_congr _ (s.setRecord i (takenRecord (s.record i))) rfl j).trans
    (State.record_setRecord_ne _ _ _ _ h)

theorem record_taken_same : (s.taken i rest).record i = takenRecord (s.record i) :=
  (State.record_congr _ (s.setRecord i (takenRecord (s.record i))) rfl i).trans
    (State.record_setRecord_same _ _ _)

/-- A record is freed only where its set holds RETIRED; its other fields are kept otherwise (R23, R101). -/
theorem takenRecord_cases (r : Record) :
    (reasonIn r.reasons .retired = true ∧ takenRecord r = Record.free) ∨
    (reasonIn r.reasons .retired = false ∧
      takenRecord r = { r with reasons := 0, failureCause := .none }) := by
  unfold takenRecord
  cases h : reasonIn r.reasons .retired
  · exact .inr ⟨rfl, rfl⟩
  · exact .inl ⟨rfl, rfl⟩

/-- A RETIRING record that no exchange names holds no text, for only one IN FLIGHT is left to it (R21). -/
theorem outboundText_of_retired (hw : s.BaseWf) (h : (s.record i).state = .retiring)
    (hn : s.contextNames i = false) : (s.record i).outboundText = none := by
  obtain ⟨hb, hf⟩ := hw.storeWf
  cases ho : (s.record i).outboundText with
  | none => rfl
  | some b =>
    have hfor := (hb.named b i).mp ho
    have hfill := hb.retiring i h
    have hfl : s.buffers[b.val].isInFlight = true := by
      cases hx : s.buffers[b.val] with
      | free => rw [hx] at hfor; cases hfor
      | filled o x =>
        rw [(textFilled_of_some ho).mpr ⟨o, x, hx⟩] at hfill; cases hfill
      | inFlight o x => rfl
      | group a x n => rw [hx] at hfor; cases hfor
    obtain ⟨c, hc, j, e⟩ := hf.inFlight b hfl
    have hj := (hf.text c hc j b e).1
    obtain rfl := hb.owner_unique hj ho
    have : s.contextNames j = true := by
      simp [State.contextNames, Option.mem_def.mp hc, e, Exchange.slot?]
    rw [hn] at this; cases this

/-- What a record keeps when its reasons are taken: all but what a RETIRED one gives up, which is nothing that is in use. -/
theorem taken_keeps (hw : s.BaseWf) (j : Slot) :
    ((s.taken i rest).record j).inboundCount = (s.record j).inboundCount ∧
    ((s.taken i rest).record j).outboundText = (s.record j).outboundText := by
  by_cases e : j = i
  · subst e
    rw [record_taken_same]
    obtain ⟨hr, ht⟩ | ⟨_, ht⟩ := takenRecord_cases (s.record j)
    · obtain ⟨hst, hin, hn⟩ := hw.ledger.retired j hr
      rw [ht, hin, outboundText_of_retired hw hst hn]
      exact ⟨rfl, rfl⟩
    · rw [ht]; exact ⟨rfl, rfl⟩
  · rw [record_taken_ne e]; exact ⟨rfl, rfl⟩

/-- A record is FREE after NEXT ATTENTION only where it was so or was RETIRED, and it then holds every FREE value. -/
theorem taken_free (hw : s.BaseWf) {j : Slot} (h : ((s.taken i rest).record j).state = .free) :
    (s.taken i rest).record j = Record.free ∧ s.contextNames j = false ∧
      (s.record j).inboundCount = 0 := by
  have hold : (s.record j).state = .free →
      s.record j = Record.free ∧ s.contextNames j = false ∧ (s.record j).inboundCount = 0 :=
    fun hf => ⟨(hw.ledger.free j hf).1, (hw.ledger.free j hf).2, inboundCount_of_free hw.ledger.free hf⟩
  by_cases e : j = i
  · subst e
    rw [record_taken_same] at h ⊢
    obtain ⟨hr, ht⟩ | ⟨_, ht⟩ := takenRecord_cases (s.record j)
    · obtain ⟨_, hin, hn⟩ := hw.ledger.retired j hr
      exact ⟨ht, hn, hin⟩
    · rw [ht] at h ⊢
      obtain ⟨h1, h2, h3⟩ := hold h
      exact ⟨by rw [h1]; rfl, h2, h3⟩
  · rw [record_taken_ne e] at h ⊢
    exact hold h

theorem taken_state {j : Slot} (h : ((s.taken i rest).record j).state ≠ .free) :
    ((s.taken i rest).record j).state = (s.record j).state ∧
      ((s.taken i rest).record j).address = (s.record j).address := by
  by_cases e : j = i
  · subst e
    rw [record_taken_same] at h ⊢
    obtain ⟨_, ht⟩ | ⟨_, ht⟩ := takenRecord_cases (s.record j)
    · rw [ht] at h; exact absurd rfl h
    · rw [ht]; exact ⟨rfl, rfl⟩
  · rw [record_taken_ne e]; exact ⟨rfl, rfl⟩

theorem inboundWf_taken (hw : s.BaseWf) : (s.taken i rest).InboundWf := by
  obtain ⟨hp, ha⟩ := inboundWf_iff.mp hw.ledger.inbound
  refine inboundWf_iff.mpr ⟨⟨hp.length, fun j => ?_, fun x hx => ⟨fun hf => ?_, ?_⟩, hp.cursor⟩,
    ha.of_same rfl rfl⟩
  · rw [(taken_keeps hw j).1]; exact hp.counts j
  · have hz := (taken_free hw hf).2.2
    rw [hp.counts] at hz
    exact absurd (by simp) (List.countP_eq_zero.mp hz x hx)
  · exact (hp.texts x hx).2

theorem textWf_taken (hw : s.BaseWf) : (s.taken i rest).TextWf := by
  obtain ⟨h1, h2, h3, h4, h5, h6, h7, h8, h9, h10⟩ := hw.ledger.texts
  have ho := fun j => (taken_keeps (i := i) (rest := rest) hw j).2
  refine ⟨fun b j => by rw [ho]; exact h1 b j, h2, h3, h4, h5,
    fun c hc j b e => by rw [ho]; exact h6 c hc j b e, h7, fun j hj => ?_, fun j hj => ?_,
    fun j hj => ?_⟩
  · rw [(taken_free hw hj).1]; rfl
  · have hst := (taken_state (by rw [hj]; nofun)).1.symm.trans hj
    have := h9 j hst
    simp only [State.textFilled, ho] at this ⊢
    exact this
  · rw [ho] at hj
    have hk := h10 j hj
    by_cases e : j = i
    · subst e
      rw [record_taken_same]
      obtain ⟨_, ht⟩ | ⟨_, ht⟩ := takenRecord_cases (s.record j)
      · rw [ht]; exact ⟨rfl, rfl⟩
      · rw [ht]; exact hk
    · rw [record_taken_ne e]; exact hk

theorem recordWf_taken (hw : s.RecordWf) : (s.taken i rest).RecordWf := by
  refine forall_slot i ?_ fun j hj => ?_
  · rw [record_taken_same]
    obtain ⟨_, ht⟩ | ⟨_, ht⟩ := takenRecord_cases (s.record i)
    · rw [ht]; exact ⟨by decide, by decide, nofun, nofun, by decide⟩
    · rw [ht]; exact hw i
  · rw [record_taken_ne hj]; exact hw j

theorem addressWf_taken (hw : s.AddressWf) : (s.taken i rest).AddressWf := by
  refine ⟨fun j k hj hk ha => ?_, fun j hj => ?_⟩
  · obtain ⟨e1, e2⟩ := taken_state hj
    obtain ⟨e3, e4⟩ := taken_state hk
    exact hw.1 j k (e1 ▸ hj) (e3 ▸ hk) (by rw [← e2, ← e4]; exact ha)
  · obtain ⟨e1, e2⟩ := taken_state hj
    rw [e2]; exact hw.2 j (e1 ▸ hj)

theorem ledgerWf_taken (h : s.attention = i :: rest) (hw : s.BaseWf) :
    (s.taken i rest).LedgerWf where
  free _ hj := ⟨(taken_free hw hj).1, (taken_free hw hj).2.1⟩
  retired := retiredLaw.taken h hw.ledger.retired
  records := recordWf_taken hw.ledger.records
  ring := ringWf_taken rest hw.ledger.retired hw.ledger.ring
  urgent := urgentWf_taken rest hw.ledger.retired hw.ledger.urgent
  attention := attentionLaw.taken h hw.ledger.attention
  inbound := inboundWf_taken hw
  texts := textWf_taken hw
  addresses := addressWf_taken hw.ledger.addresses

theorem ledgerWf_nextAttention (args : List Octet) (hw : s.BaseWf) :
    (nextAttention args s).state.LedgerWf := by
  unfold nextAttention
  split
  · exact hw.ledger
  · next h => exact ledgerWf_taken h hw

theorem ledgerWf_complete (n : CommandName) (body : List Octet → State → Completion)
    (h : ∀ args, (body args s).state.LedgerWf) (hw : s.LedgerWf) : (s.complete n body).LedgerWf := by
  obtain e | ⟨_, _, _, e⟩ | ⟨args, _, _, e⟩ := s.complete_cases n body
  · rw [e]; exact hw
  · rw [e]; exact hw.congr rfl
  · rw [e]; exact (h args).congr rfl

/-- Every command keeps the ledger's part of the invariant. -/
theorem ledgerWf_exec (c : Instr) (h : exec c s = .next t) (hw : s.BaseWf) : t.LedgerWf := by
  by_cases h1 : c = .nextAttention
  · subst h1; cases h
    exact ledgerWf_complete _ _ (fun args => ledgerWf_nextAttention args hw) hw.ledger
  by_cases h2 : c = .tableReset
  · subst h2; cases h
    exact ledgerWf_complete _ _ (fun args => ledgerWf_tableReset args hw) hw.ledger
  by_cases h3 : c = .masterReset
  · subst h3; cases h
    exact empty_reset.ledgerWf.congr rfl
  exact (reaches_exec c h h1 h2 h3).ledgerWf hw

end

end Sys2Proof.Machine
end

section
namespace Sys2Proof.Machine

/-! ### The engine, state by state (R130) -/

/-- No exchange and no test: what STOPPED, FAULT, GAP, READY and SETTLING have in common. -/
structure State.NoTurn (s : State) : Prop where
  context : s.context = none
  framer : s.framer = none
  ctsTimer : s.ctsTimer = none
  replyTimer : s.replyTimer = none
  ctsLoss : s.ctsLoss = false
  lineTest : s.lineTest = none
  phase : s.receiver.phase = .off

/-- STOPPED and FAULT: nothing runs and nothing is requested (R144). -/
structure State.AtRest (s : State) : Prop extends s.NoTurn where
  gapTimer : s.gapTimer = none
  settleTimer : s.settleTimer = none
  probeTimer : s.probeTimer = none
  stopRequested : s.stopRequested = false
  followOn : s.followOn = none

/-- GAP and READY, with the gap timer running or not (R135). -/
structure State.BetweenTurns (s : State) (gap : Bool) : Prop extends s.NoTurn where
  gapTimer : s.gapTimer.isSome = gap
  settleTimer : s.settleTimer = none
  probeTimer : s.probeTimer.isSome = true
  stopRequested : s.stopRequested = false

/-- SETTLING (R142). -/
structure State.Settles (s : State) : Prop extends s.NoTurn where
  gapTimer : s.gapTimer = none
  settleTimer : s.settleTimer.isSome = true
  probeTimer : s.probeTimer.isSome = true
  dcd : s.dcd = true

/-- The exchange of `c` in progress: what RAISING, SENDING, LISTENING and RECEIVING have in common (R51). -/
structure State.InTurn (s : State) (c : Context) : Prop where
  context : s.context = some c
  gapTimer : s.gapTimer = none
  settleTimer : s.settleTimer = none
  probeTimer : s.probeTimer.isSome = true
  followOn : s.followOn = none
  lineTest : s.lineTest = none

/-- RAISING (R136). -/
structure State.Raises (s : State) (c : Context) (f : Frame) : Prop extends s.InTurn c where
  framer : s.framer = some f
  ctsTimer : s.ctsTimer.isSome = true
  replyTimer : s.replyTimer = none
  ctsLoss : s.ctsLoss = false
  phase : s.receiver.phase = .off
  point : c.point = .notSent
  sent : f.sent < f.crcEnd

/-- SENDING (R120). -/
structure State.Sends (s : State) (c : Context) (f : Frame) : Prop extends s.InTurn c where
  framer : s.framer = some f
  ctsTimer : s.ctsTimer = none
  replyTimer : s.replyTimer = none
  phase : s.receiver.phase = .off
  point : c.point = .whollySent ↔ f.crcEnd ≤ f.sent

/-- LISTENING and RECEIVING, with the reply timer running or not (R138, R140, R141). -/
structure State.Awaits (s : State) (c : Context) (reply : Bool) : Prop extends s.InTurn c where
  framer : s.framer = none
  ctsTimer : s.ctsTimer = none
  replyTimer : s.replyTimer.isSome = reply
  ctsLoss : s.ctsLoss = false
  point : c.point = .whollySent
  slot : c.exchange.slot?.isSome = true

/-- TESTING (R150). -/
structure State.Tests (s : State) : Prop where
  context : s.context = none
  gapTimer : s.gapTimer = none
  ctsTimer : s.ctsTimer = none
  settleTimer : s.settleTimer = none
  probeTimer : s.probeTimer = none
  stopRequested : s.stopRequested = false
  ctsLoss : s.ctsLoss = false
  followOn : s.followOn = none
  lineTest : s.lineTest.isSome = true
  command : ∃ c ∈ s.command, c.code = 0x53
  phase : s.receiver.phase ≠ .off

/-- What the engine state goes with. -/
def State.Fits (s : State) : Prop :=
  match s.engine with
  | .stopped | .fault => s.AtRest
  | .gap => s.BetweenTurns true
  | .ready => s.BetweenTurns false
  | .settling => s.Settles
  | .raising => ∃ c f, s.Raises c f
  | .sending => ∃ c f, s.Sends c f
  | .listening => ∃ c, s.Awaits c true ∧ (s.receiver.phase = .hunting ∨ s.receiver.phase = .aligned)
  | .receiving => ∃ c, s.Awaits c false ∧ s.receiver.phase = .body ∧ s.dcd = true
  | .testing => s.Tests

section
variable {s t : State}

theorem phaseAllowed_off {e : EngineState} (h : e = .stopped ∨ e = .fault ∨ e = .gap ∨ e = .ready ∨
    e = .settling ∨ e = .raising ∨ e = .sending) (p : Phase) :
    phaseAllowed e p = true ↔ p = .off := by
  obtain rfl | rfl | rfl | rfl | rfl | rfl | rfl := h <;> cases p <;> decide

theorem phase_off {e : EngineState} {p : Phase} (h : phaseAllowed e p = true)
    (he : e = .stopped ∨ e = .fault ∨ e = .gap ∨ e = .ready ∨ e = .settling ∨ e = .raising ∨
      e = .sending) : p = .off := (phaseAllowed_off he p).mp h

theorem fits_of_engineWf (h : s.EngineWf) : s.Fits := by
  obtain ⟨hc, hf1, hf2, hg, hct, hr1, hr2, hst, hd, hp, hs, hl, hfo, hlt, hcmd, hph, hpt⟩ := h
  unfold State.Fits
  unfold State.ContextWf at hc
  have hp' : s.probeTimer.isSome = true ↔
      ¬(s.engine = .stopped ∨ s.engine = .fault ∨ s.engine = .testing) := by
    rw [← hp, Bool.not_eq_false]
  split
  all_goals
    rename_i he
    simp only [he, EngineState.inExchange, reduceCtorEq, or_false, or_self, iff_false, iff_true,
      imp_false, Bool.not_eq_true, Option.isSome_eq_false_iff, Option.isNone_iff_eq_none,
      forall_const, not_false_eq_true, not_true_eq_false, or_true, false_imp_iff, true_and, and_true]
      at hc hf1 hf2 hg hct hr1 hr2 hst hd hp' hs hl hfo hlt hcmd hpt
    rw [he] at hph
  case h_1 | h_2 =>
    exact ⟨⟨hc, hf2, hct, hr2, hl, hlt, phase_off hph (by simp)⟩, hg, hst, hp', hs, hfo⟩
  case h_3 => exact ⟨⟨hc, hf2, hct, hr2, hl, hlt, phase_off hph (by simp)⟩, hg, hst, hp', hs⟩
  case h_4 =>
    exact ⟨⟨hc, hf2, hct, hr2, hl, hlt, phase_off hph (by simp)⟩, by rw [hg]; rfl, hst, hp', hs⟩
  case h_5 => exact ⟨⟨hc, hf2, hct, hr2, hl, hlt, phase_off hph (by simp)⟩, hg, hst, hp', hd⟩
  case h_6 =>
    obtain ⟨c, hc⟩ := Option.isSome_iff_exists.mp hc
    obtain ⟨f, hf⟩ := Option.isSome_iff_exists.mp hf1
    obtain ⟨hn, hw⟩ := hpt c hc
    have hlt' : f.sent < f.crcEnd := by
      by_contra hle
      rw [(hw f hf).mpr (Nat.le_of_not_lt hle)] at hn
      cases hn
    exact ⟨c, f, ⟨hc, hg, hst, hp', hfo, hlt⟩, hf, hct, hr2, hl, phase_off hph (by simp), hn, hlt'⟩
  case h_7 =>
    obtain ⟨c, hc⟩ := Option.isSome_iff_exists.mp hc
    obtain ⟨f, hf⟩ := Option.isSome_iff_exists.mp hf1
    exact ⟨c, f, ⟨hc, hg, hst, hp', hfo, hlt⟩, hf, hct, hr2, phase_off hph (by simp), hpt c hc f hf⟩
  case h_8 =>
    obtain ⟨c, hc⟩ := Option.isSome_iff_exists.mp hc
    obtain ⟨_, hw, hsl⟩ := hpt c hc
    refine ⟨c, ⟨⟨hc, hg, hst, hp', hfo, hlt⟩, hf2, hct, hr1, hl, hw, hsl⟩, ?_⟩
    cases hx : s.receiver.phase <;> simp_all [phaseAllowed]
  case h_9 =>
    obtain ⟨c, hc⟩ := Option.isSome_iff_exists.mp hc
    obtain ⟨_, hw, hsl⟩ := hpt c hc
    refine ⟨c, ⟨⟨hc, hg, hst, hp', hfo, hlt⟩, hf2, hct, by rw [hr2]; rfl, hl, hw, hsl⟩, ?_, hd⟩
    cases hx : s.receiver.phase <;> simp_all [phaseAllowed]
  case h_10 =>
    refine ⟨hc, hg, hct, hst, hp', hs, hl, hfo, hlt, hcmd, fun hx => ?_⟩
    rw [hx] at hph; cases hph

theorem engineWf_of_fits (h : s.Fits) : s.EngineWf := by
  unfold State.Fits at h
  split at h
  all_goals
    rename_i he
    unfold State.EngineWf State.ContextWf
    simp only [he, EngineState.inExchange, reduceCtorEq, or_false, or_self, iff_false, iff_true,
      imp_false, Bool.not_eq_true, Option.isSome_eq_false_iff, Option.isNone_iff_eq_none,
      forall_const, or_true, false_imp_iff, true_and, and_true,
      implies_true]
  case h_1 | h_2 =>
    simp [h.context, h.framer, h.gapTimer, h.ctsTimer, h.replyTimer, h.settleTimer, h.probeTimer,
      h.stopRequested, h.ctsLoss, h.followOn, h.lineTest, h.phase, phaseAllowed]
  case h_3 =>
    simp [h.context, h.framer, h.gapTimer, h.ctsTimer, h.replyTimer, h.settleTimer,
      Option.isSome_iff_ne_none.mp h.probeTimer, h.stopRequested, h.ctsLoss, h.lineTest, h.phase,
      phaseAllowed]
  case h_4 =>
    simp [h.context, h.framer, Option.isSome_eq_false_iff.mp h.gapTimer |> Option.isNone_iff_eq_none.mp,
      h.ctsTimer, h.replyTimer, h.settleTimer, Option.isSome_iff_ne_none.mp h.probeTimer,
      h.stopRequested, h.ctsLoss, h.lineTest, h.phase, phaseAllowed]
  case h_5 =>
    simp [h.context, h.framer, h.gapTimer, h.ctsTimer, h.replyTimer, h.settleTimer,
      Option.isSome_iff_ne_none.mp h.probeTimer, h.dcd, h.ctsLoss, h.lineTest, h.phase, phaseAllowed]
  case h_6 =>
    obtain ⟨c, f, h⟩ := h
    simp [h.context, h.framer, h.gapTimer, h.ctsTimer, h.replyTimer, h.settleTimer,
      Option.isSome_iff_ne_none.mp h.probeTimer, h.ctsLoss, h.followOn, h.lineTest, h.phase,
      phaseAllowed, h.point, h.sent]
  case h_7 =>
    obtain ⟨c, f, h⟩ := h
    simp [h.context, h.framer, h.gapTimer, h.ctsTimer, h.replyTimer, h.settleTimer,
      Option.isSome_iff_ne_none.mp h.probeTimer, h.followOn, h.lineTest, h.phase,
      phaseAllowed, h.point]
  case h_8 =>
    obtain ⟨c, h, hp⟩ := h
    have hph : phaseAllowed .listening s.receiver.phase = true := by
      obtain hp | hp := hp <;> rw [hp] <;> rfl
    simp [h.context, h.framer, h.gapTimer, h.ctsTimer, h.replyTimer, h.settleTimer,
      Option.isSome_iff_ne_none.mp h.probeTimer, h.ctsLoss, h.followOn, h.lineTest, hph, h.point,
      h.slot]
  case h_9 =>
    obtain ⟨c, h, hp, hd⟩ := h
    simp [h.context, h.framer, h.gapTimer, h.ctsTimer,
      Option.isSome_eq_false_iff.mp h.replyTimer |> Option.isNone_iff_eq_none.mp, h.settleTimer,
      Option.isSome_iff_ne_none.mp h.probeTimer, h.ctsLoss, h.followOn, h.lineTest, hp, h.point,
      h.slot, hd, phaseAllowed]
  case h_10 =>
    have hph : phaseAllowed .testing s.receiver.phase = true := by
      have := h.phase
      cases hx : s.receiver.phase <;> simp_all [phaseAllowed]
    simp only [h.context, h.gapTimer, h.ctsTimer, h.settleTimer, h.probeTimer, h.stopRequested, h.ctsLoss,
      h.followOn, h.lineTest, hph, h.command]
    simp

theorem engineWf_iff : s.EngineWf ↔ s.Fits := ⟨fits_of_engineWf, engineWf_of_fits⟩

end

end Sys2Proof.Machine
end

section
namespace Sys2Proof.Machine

/-! ### The engine under what does not move it -/

/-- The fields that the engine state goes with, the command in progress aside. -/
structure Drive where
  engine : EngineState
  context : Option Context
  framer : Option Frame
  gapTimer : Option Timer
  ctsTimer : Option Timer
  replyTimer : Option Timer
  settleTimer : Option Timer
  probeTimer : Option Timer
  dcd : Bool
  ctsLoss : Bool
  stopRequested : Bool
  followOn : Option Slot
  lineTest : Option LineTest
  phase : Phase

def State.drive (s : State) : Drive :=
  { engine := s.engine, context := s.context, framer := s.framer, gapTimer := s.gapTimer
    ctsTimer := s.ctsTimer, replyTimer := s.replyTimer, settleTimer := s.settleTimer
    probeTimer := s.probeTimer, dcd := s.dcd, ctsLoss := s.ctsLoss
    stopRequested := s.stopRequested, followOn := s.followOn, lineTest := s.lineTest
    phase := s.receiver.phase }

section
variable {s t : State}

/-- The drive unchanged, and in TESTING the command too. -/
theorem State.EngineWf.congr (h : s.EngineWf) (hd : t.drive = s.drive)
    (hc : s.engine = .testing → t.command = s.command) : t.EngineWf := by
  cases s
  cases t
  simp only [State.drive, Drive.mk.injEq] at hd
  obtain ⟨rfl, rfl, rfl, rfl, rfl, rfl, rfl, rfl, rfl, rfl, rfl, rfl, rfl, hp⟩ := hd
  obtain ⟨h1, h2, h3, h4, h5, h6, h7, h8, h9, h10, h11, h12, h13, h14, h15, h16, h17⟩ := h
  refine ⟨h1, h2, h3, h4, h5, h6, h7, h8, h9, h10, h11, h12, h13, h14, fun he => ?_, ?_, h17⟩
  · rw [hc he]; exact h15 he
  · rw [hp]; exact h16

theorem State.EngineWf.of_drive (h : s.EngineWf) (hd : t.drive = s.drive)
    (hc : t.command = s.command) : t.EngineWf := h.congr hd fun _ => hc

/-- The receiver changed, in a phase that the engine state allows. -/
theorem State.EngineWf.receiver (h : s.EngineWf) (rx : Receiver)
    (hp : phaseAllowed s.engine rx.phase = true) : State.EngineWf { s with receiver := rx } := by
  obtain ⟨h1, h2, h3, h4, h5, h6, h7, h8, h9, h10, h11, h12, h13, h14, h15, _, h17⟩ := h
  exact ⟨h1, h2, h3, h4, h5, h6, h7, h8, h9, h10, h11, h12, h13, h14, h15, hp, h17⟩

/-- The level of DCD changed, where it plays no part (R133). -/
theorem State.EngineWf.dcd (h : s.EngineWf) (a : Bool)
    (ha : a = true ∨ (s.engine ≠ .settling ∧ s.engine ≠ .receiving)) :
    State.EngineWf { s with dcd := a } := by
  obtain ⟨h1, h2, h3, h4, h5, h6, h7, h8, _, h10, h11, h12, h13, h14, h15, h16, h17⟩ := h
  refine ⟨h1, h2, h3, h4, h5, h6, h7, h8, fun he => ?_, h10, h11, h12, h13, h14, h15, h16, h17⟩
  obtain rfl | ⟨hs, hr⟩ := ha
  · rfl
  · exact (he.elim hs hr).elim

/-- A stop requested during a turn (R147). -/
theorem State.EngineWf.stopRequested (h : s.EngineWf)
    (he : s.engine.inExchange = true ∨ s.engine = .settling) :
    State.EngineWf { s with stopRequested := true } := by
  obtain ⟨h1, h2, h3, h4, h5, h6, h7, h8, h9, h10, _, h12, h13, h14, h15, h16, h17⟩ := h
  exact ⟨h1, h2, h3, h4, h5, h6, h7, h8, h9, h10, fun _ => he, h12, h13, h14, h15, h16, h17⟩

/-- A CTS loss taken in SENDING (R139). -/
theorem State.EngineWf.ctsLoss (h : s.EngineWf) (he : s.engine = .sending) :
    State.EngineWf { s with ctsLoss := true } := by
  obtain ⟨h1, h2, h3, h4, h5, h6, h7, h8, h9, h10, h11, _, h13, h14, h15, h16, h17⟩ := h
  exact ⟨h1, h2, h3, h4, h5, h6, h7, h8, h9, h10, h11, fun _ => he, h13, h14, h15, h16, h17⟩

/-- A follow-on taken or dropped. -/
theorem State.EngineWf.noFollowOn (h : s.EngineWf) : State.EngineWf { s with followOn := none } := by
  obtain ⟨h1, h2, h3, h4, h5, h6, h7, h8, h9, h10, h11, h12, _, h14, h15, h16, h17⟩ := h
  exact ⟨h1, h2, h3, h4, h5, h6, h7, h8, h9, h10, h11, h12, nofun, h14, h15, h16, h17⟩

/-- A new period of a running probe timer (R38). -/
theorem State.EngineWf.probeTimer (h : s.EngineWf) (x : Option Timer)
    (hx : x.isSome = s.probeTimer.isSome) : State.EngineWf { s with probeTimer := x } := by
  obtain ⟨h1, h2, h3, h4, h5, h6, h7, h8, h9, h10, h11, h12, h13, h14, h15, h16, h17⟩ := h
  exact ⟨h1, h2, h3, h4, h5, h6, h7, h8, h9, by rw [hx]; exact h10, h11, h12, h13, h14, h15, h16, h17⟩

theorem engineWf_countTimers (h : s.EngineWf) : s.countTimers.EngineWf := by
  obtain ⟨h1, h2, h3, h4, h5, h6, h7, h8, h9, h10, h11, h12, h13, h14, h15, h16, h17⟩ := h
  refine ⟨h1, h2, h3, ?_, ?_, ?_, ?_, ?_, h9, ?_, h11, h12, h13, h14, h15, h16, h17⟩
  all_goals
    simp only [State.countTimers, Option.isSome_map]
    assumption

/-! ### The engine's entries (R135, R142 to R144) -/

theorem atRest_enterStopped (hc : s.context = none) (b : Bool) : (s.enterStopped b).AtRest :=
  ⟨⟨hc, rfl, rfl, rfl, rfl, rfl, rfl⟩, rfl, rfl, rfl, rfl, rfl⟩

theorem engineWf_enterStopped (hc : s.context = none) (b : Bool) : (s.enterStopped b).EngineWf :=
  engineWf_of_fits (atRest_enterStopped hc b)

theorem engineWf_enterFault (hc : s.context = none) (c : FaultCode) : (s.enterFault c).EngineWf :=
  engineWf_of_fits
    (show (s.enterFault c).AtRest from ⟨⟨hc, rfl, rfl, rfl, rfl, rfl, rfl⟩, rfl, rfl, rfl, rfl, rfl⟩)

/-- What an exchange leaves to the end of its turn. -/
structure State.Ended (s : State) : Prop where
  context : s.context = none
  gapTimer : s.gapTimer = none
  ctsTimer : s.ctsTimer = none
  replyTimer : s.replyTimer = none
  settleTimer : s.settleTimer = none
  probeTimer : s.probeTimer.isSome = true
  ctsLoss : s.ctsLoss = false
  lineTest : s.lineTest = none

theorem State.Ended.frame (h : s.Ended) (hf : SlotFrame s t) : t.Ended := by
  obtain ⟨_, _, _, _, _, _, _, rfl⟩ := hf
  exact ⟨h.context, h.gapTimer, h.ctsTimer, h.replyTimer, h.settleTimer, h.probeTimer, h.ctsLoss,
    h.lineTest⟩

theorem engineWf_enterGap (h : s.Ended) (hs : s.stopRequested = false) : s.enterGap.EngineWf := by
  have hn : ∀ (e : EngineState) (g : Option Timer), State.NoTurn
      { s with engine := e, framer := none, receiver := Receiver.off, gapTimer := g } :=
    fun _ _ => ⟨h.context, rfl, h.ctsTimer, h.replyTimer, h.ctsLoss, h.lineTest, rfl⟩
  unfold State.enterGap
  split
  · exact engineWf_of_fits (show State.BetweenTurns _ false from
      ⟨hn _ _, rfl, h.settleTimer, h.probeTimer, hs⟩)
  · exact engineWf_of_fits (show State.BetweenTurns _ true from
      ⟨hn _ _, rfl, h.settleTimer, h.probeTimer, hs⟩)

theorem engineWf_endTurn (h : s.Ended) : s.endTurn.EngineWf := by
  cases hs : s.stopRequested with
  | true => rw [s.endTurn_of_stop hs]; exact engineWf_enterStopped h.context true
  | false => rw [s.endTurn_of_no_stop hs]; exact engineWf_enterGap h hs

theorem engineWf_enterSettling (h : s.Ended) (hf : s.framer = none) : s.enterSettling.EngineWf := by
  cases hd : s.dcd with
  | true =>
    rw [s.enterSettling_of_dcd hd]
    exact engineWf_of_fits (show State.Settles _ from
      ⟨⟨h.context, hf, h.ctsTimer, h.replyTimer, h.ctsLoss, h.lineTest, rfl⟩, h.gapTimer, rfl,
        h.probeTimer, hd⟩)
  | false =>
    unfold State.enterSettling
    simp only [hd, if_neg Bool.false_ne_true]
    exact engineWf_endTurn ⟨h.context, h.gapTimer, h.ctsTimer, h.replyTimer, h.settleTimer,
      h.probeTimer, h.ctsLoss, h.lineTest⟩

/-! ### The end of an exchange leaves the engine to its entries (R52) -/

theorem slotFrame_endContext (u : State) (x : Exchange) :
    SlotFrame { u with context := none } (u.endContext x) := by
  cases h : x.slot? with
  | none =>
    have : u.endContext x = { u with context := none } := by simp only [State.endContext, h]
    rw [this]; exact .refl _
  | some i => rw [endContext_of_slot _ _ h]; exact slotFrame_testRetired _ i

theorem SlotFrame.ended {u : State} (h : SlotFrame s u) (x : Exchange) :
    SlotFrame { s with context := none } (u.endContext x) := by
  refine SlotFrame.trans ?_ (slotFrame_endContext u x)
  obtain ⟨_, _, _, _, _, _, _, rfl⟩ := h
  exact ⟨_, _, _, _, _, _, _, rfl⟩

theorem slotFrame_applyMiss (x : Exchange) : SlotFrame s (s.applyMiss x) := by
  cases h : x.slot? with
  | none =>
    obtain ⟨b, rfl⟩ := x.slot?_eq_none h
    exact .refl s
  | some i => exact (touches_applyMiss (G := False) x h nofun).frame

theorem slotFrame_applyAbandoned (c : Context) : SlotFrame s (s.applyAbandoned c) := by
  cases h : c.exchange.slot? with
  | none =>
    obtain ⟨b, hb⟩ := c.exchange.slot?_eq_none h
    simp only [State.applyAbandoned, hb]
    exact .refl s
  | some i => exact (touches_applyAbandoned (G := False) c h).frame

theorem slotFrame_applyJudgement (c : Context) (j : Judgement) (hc : s.context = some c) :
    SlotFrame s (s.applyJudgement c j) := by
  cases j with
  | bad e => exact slotFrame_applyMiss _
  | good k a ctl x =>
    cases h : c.exchange.slot? with
    | none =>
      obtain ⟨b, hb⟩ := c.exchange.slot?_eq_none h
      simp only [State.applyJudgement, State.applyGood, hb, State.applyMiss, ite_self]
      exact .refl s
    | some i => exact (touches_applyGood (G := False) c k a ctl x hc h nofun nofun).frame

theorem slotFrame_of_noContext (h : s.context = none) : SlotFrame { s with context := none } s := by
  have e : { s with context := none } = s := by rw [← h]
  rw [e]; exact .refl s

theorem slotFrame_missExchange : SlotFrame { s with context := none } s.missExchange := by
  unfold State.missExchange
  split
  · next h => exact slotFrame_of_noContext h
  · exact (slotFrame_applyMiss _).ended _

theorem slotFrame_abandonExchange : SlotFrame { s with context := none } s.abandonExchange := by
  unfold State.abandonExchange
  split
  · next h => exact slotFrame_of_noContext h
  · exact (slotFrame_applyAbandoned _).ended _

theorem SlotFrame.context {c : Option Context} (h : SlotFrame { s with context := c } t) :
    t.context = c := by
  obtain ⟨_, _, _, _, _, _, _, rfl⟩ := h; rfl

theorem context_abandonExchange : s.abandonExchange.context = none := slotFrame_abandonExchange.context

/-! ### The engine state that a guard names -/

theorem State.EngineWf.atRest (h : s.EngineWf) (he : s.engine = .stopped ∨ s.engine = .fault) :
    s.AtRest := by
  obtain he | he := he
  · simpa only [State.Fits, he] using engineWf_iff.mp h
  · simpa only [State.Fits, he] using engineWf_iff.mp h

theorem State.EngineWf.raises (h : s.EngineWf) (he : s.engine = .raising) :
    ∃ c f, s.Raises c f := by
  simpa only [State.Fits, he] using engineWf_iff.mp h

theorem State.EngineWf.sends (h : s.EngineWf) (he : s.engine = .sending) : ∃ c f, s.Sends c f := by
  simpa only [State.Fits, he] using engineWf_iff.mp h

theorem State.EngineWf.listens (h : s.EngineWf) (he : s.engine = .listening) :
    ∃ c, s.Awaits c true ∧ (s.receiver.phase = .hunting ∨ s.receiver.phase = .aligned) := by
  simpa only [State.Fits, he] using engineWf_iff.mp h

theorem State.EngineWf.receives (h : s.EngineWf) (he : s.engine = .receiving) :
    ∃ c, s.Awaits c false ∧ s.receiver.phase = .body ∧ s.dcd = true := by
  simpa only [State.Fits, he] using engineWf_iff.mp h

theorem State.EngineWf.settles (h : s.EngineWf) (he : s.engine = .settling) : s.Settles := by
  simpa only [State.Fits, he] using engineWf_iff.mp h

theorem State.EngineWf.tests (h : s.EngineWf) (he : s.engine = .testing) : s.Tests := by
  simpa only [State.Fits, he] using engineWf_iff.mp h

theorem State.EngineWf.gap (h : s.EngineWf) (he : s.engine = .gap) : s.BetweenTurns true := by
  simpa only [State.Fits, he] using engineWf_iff.mp h

theorem State.EngineWf.ready (h : s.EngineWf) (he : s.engine = .ready) : s.BetweenTurns false := by
  simpa only [State.Fits, he] using engineWf_iff.mp h

theorem State.InTurn.ended {c : Context} (h : s.InTurn c) (hc : s.ctsTimer = none)
    (hr : s.replyTimer = none) (hl : s.ctsLoss = false) : State.Ended { s with context := none } :=
  ⟨rfl, h.gapTimer, hc, hr, h.settleTimer, h.probeTimer, hl, h.lineTest⟩

end

end Sys2Proof.Machine
end

section
namespace Sys2Proof.Machine

/-! ### The engine under each event of the line (7.3 to 7.8) -/

section
variable {s t : State}

theorem drive_noteLineChange (s : State) :
    s.noteLineChange.drive = s.drive ∧ s.noteLineChange.command = s.command := by
  unfold State.noteLineChange
  split <;> exact ⟨rfl, rfl⟩

theorem engineWf_noteLineChange (h : s.EngineWf) : s.noteLineChange.EngineWf :=
  h.of_drive (drive_noteLineChange s).1 (drive_noteLineChange s).2

/-! #### START LINE, STOP LINE, ABORT LINE -/

theorem engineWf_startLine (h : s.AtRest) : s.startLine.EngineWf := by
  unfold State.startLine State.enterGap
  split
  · exact engineWf_of_fits (show State.BetweenTurns _ false from
      ⟨⟨h.context, rfl, h.ctsTimer, h.replyTimer, h.ctsLoss, h.lineTest, rfl⟩, rfl, h.settleTimer,
        rfl, h.stopRequested⟩)
  · exact engineWf_of_fits (show State.BetweenTurns _ true from
      ⟨⟨h.context, rfl, h.ctsTimer, h.replyTimer, h.ctsLoss, h.lineTest, rfl⟩, rfl, h.settleTimer,
        rfl, h.stopRequested⟩)

theorem engineWf_stopLine (h : s.EngineWf) : s.stopLine.EngineWf := by
  have hstop : s.engine = .stopped ∨ s.engine = .fault ∨ s.engine = .gap ∨ s.engine = .ready →
      (s.enterStopped true).EngineWf := by
    intro he
    refine engineWf_enterStopped (context_of_engine h.1 ?_) true
    obtain he | he | he | he := he <;> rw [he] <;> rfl
  have hturn : s.engine.inExchange = true ∨ s.engine = .settling →
      State.EngineWf { s with stopRequested := true } := h.stopRequested
  unfold State.stopLine
  split
  all_goals rename_i he
  case h_10 => exact h
  case h_1 | h_2 | h_3 | h_4 => exact hstop (by simp [he])
  all_goals exact hturn (by simp [he, EngineState.inExchange])

/-! #### LINE TEST -/

theorem engineWf_beginTest (h : s.AtRest) (hc : ∃ c ∈ s.command, c.code = 0x53) :
    s.beginTest.EngineWf :=
  engineWf_of_fits (show State.Tests _ from
    ⟨h.context, h.gapTimer, h.ctsTimer, h.settleTimer, h.probeTimer, h.stopRequested, h.ctsLoss,
      h.followOn, rfl, hc, nofun⟩)

theorem engineWf_endTest (hc : s.context = none) (c : ResultCode) : (s.endTest c).EngineWf :=
  (engineWf_enterStopped hc false).congr rfl nofun

/-- A completion while no test runs (R172). -/
theorem State.EngineWf.finish (h : s.EngineWf) (n : Nat) (c : ResultCode) (d : List Octet)
    (he : s.engine ≠ .testing) : (s.finish n c d).EngineWf :=
  h.congr rfl fun e => absurd e he

theorem State.EngineWf.lineTest_isSome_iff (h : s.EngineWf) :
    s.lineTest.isSome = true ↔ s.engine = .testing := by
  obtain ⟨_, _, _, _, _, _, _, _, _, _, _, _, _, h14, _⟩ := h
  exact h14

theorem engineWf_lineTestEvent (h : s.EngineWf) : s.lineTestEvent.EngineWf := by
  unfold State.lineTestEvent
  split
  · exact h
  · next c hc =>
    split
    · next hl =>
      have hne : s.engine ≠ .testing := fun e => by
        have := h.lineTest_isSome_iff.mpr e
        rw [hl.2] at this; cases this
      split
      · exact h.finish _ _ _ hne
      · split
        · exact h.finish _ _ _ hne
        · next he =>
          split
          · exact h.finish _ _ _ hne
          · exact engineWf_beginTest (h.atRest (.inl (not_not.mp he))) ⟨c, hc, hl.1⟩
    · exact h

/-! #### CTS and DCD -/

theorem engineWf_ctsChanged (h : s.EngineWf) (a : Bool) : (s.ctsChanged a).EngineWf := by
  have ht : ({ s with cts := a }.noteLineChange).EngineWf :=
    engineWf_noteLineChange (h.of_drive rfl rfl)
  have hdrive := (drive_noteLineChange { s with cts := a }).1
  have heng : ({ s with cts := a }.noteLineChange).engine = s.engine := congrArg Drive.engine hdrive
  unfold State.ctsChanged
  simp only
  split
  · next he =>
    obtain ⟨c, f, hr⟩ := ht.raises (heng.trans he)
    refine engineWf_of_fits (show State.Fits _ from ⟨c, f, ⟨hr.context, hr.gapTimer, hr.settleTimer,
      hr.probeTimer, hr.followOn, hr.lineTest⟩, hr.framer, rfl, hr.replyTimer, hr.phase, ?_⟩)
    have := hr.sent
    rw [hr.point]
    exact iff_of_false nofun (by omega)
  · next he =>
    exact ht.ctsLoss (heng.trans he)
  · exact ht

theorem Receiver.loseCarrier_of_hunts {rx : Receiver} (h : rx.phase = .hunting ∨ rx.phase = .aligned) :
    rx.loseCarrier = { rx with phase := .hunting, window := [], octetBits := [] } := by
  unfold Receiver.loseCarrier
  obtain h | h := h <;> rw [h]

theorem engineWf_dcdChanged (h : s.EngineWf) (a : Bool) : (s.dcdChanged a).EngineWf := by
  have hd := (drive_noteLineChange { s with dcd := a }).1
  have heng : ({ s with dcd := a }.noteLineChange).engine = s.engine := congrArg Drive.engine hd
  have ht : a = true ∨ (s.engine ≠ .settling ∧ s.engine ≠ .receiving) →
      ({ s with dcd := a }.noteLineChange).EngineWf := fun ha =>
    engineWf_noteLineChange (h.dcd a ha)
  unfold State.dcdChanged
  simp only
  split
  · next he =>
    have ht := ht (by simp [he])
    obtain ⟨c, _, hp⟩ := ht.listens (heng.trans he)
    refine ht.receiver _ ?_
    rw [heng.trans he, Receiver.loseCarrier_of_hunts hp]; rfl
  · next he =>
    obtain ⟨c, hr, _⟩ := h.receives he
    have hrep : s.replyTimer = none :=
      Option.not_isSome_iff_eq_none.mp (by rw [hr.replyTimer]; nofun)
    have hend : State.Ended { ({ s with dcd := false }.noteLineChange) with context := none } ∧
        ({ s with dcd := false }.noteLineChange).framer = none := by
      unfold State.noteLineChange
      split <;> exact ⟨⟨rfl, hr.gapTimer, hr.ctsTimer, hrep, hr.settleTimer, hr.probeTimer, hr.ctsLoss,
        hr.lineTest⟩, hr.framer⟩
    have hf := slotFrame_missExchange (s := { s with dcd := false }.noteLineChange)
    refine engineWf_enterSettling (hend.1.frame hf) ?_
    obtain ⟨_, _, _, _, _, _, _, e⟩ := hf
    rw [e]; exact hend.2
  · next he =>
    have hr := h.settles he
    refine engineWf_endTurn ?_
    unfold State.noteLineChange
    split <;> exact ⟨hr.context, hr.gapTimer, hr.ctsTimer, hr.replyTimer, rfl, hr.probeTimer,
      hr.ctsLoss, hr.lineTest⟩
  · next h1 h2 h3 =>
    exact ht (or_iff_not_imp_left.mpr fun ha =>
      ⟨fun e => h3 e (by simpa using ha), fun e => h2 e (by simpa using ha)⟩)

theorem engineWf_ctsLostEvent (h : s.EngineWf) : s.ctsLostEvent.EngineWf := by
  unfold State.ctsLostEvent
  split
  · exact engineWf_enterFault context_abandonExchange _
  · exact h

/-! #### The framer's points -/

theorem engineWf_lastCrcOctetSent (h : s.EngineWf) : s.lastCrcOctetSent.EngineWf := by
  unfold State.lastCrcOctetSent
  split
  · exact h
  · next f hf =>
    split
    · next hc =>
      obtain he | he := hc.1
      · obtain ⟨c, f', hr⟩ := h.sends he
        have hcx : Option.map (fun c : Context => { c with point := .whollySent }) s.context =
            some { c with point := .whollySent } := by rw [hr.context]; rfl
        refine engineWf_of_fits ?_
        unfold State.Fits
        simp only [he]
        exact ⟨{ c with point := .whollySent }, { f with sent := f.crcEnd },
          ⟨hcx, hr.gapTimer, hr.settleTimer, hr.probeTimer, hr.followOn, hr.lineTest⟩, rfl,
          hr.ctsTimer, hr.replyTimer, hr.phase, iff_of_true rfl (Nat.le_refl _)⟩
      · have hr := h.tests he
        refine engineWf_of_fits ?_
        unfold State.Fits
        simp only [he]
        exact ⟨by rw [hr.context]; rfl, hr.gapTimer, hr.ctsTimer, hr.settleTimer, hr.probeTimer,
          hr.stopRequested, hr.ctsLoss, hr.followOn, hr.lineTest, hr.command, hr.phase⟩
    · exact h

theorem slotFrame_applySent (b : BufferNo) :
    ∃ (bs : Vector OutBuffer Config.outboundBuffers) (q : List BufferNo) (c w : Bool),
      s.applySent b =
        { s with buffers := bs, groupQueue := q, causeBufferFree := c, bufferWanted := w } := by
  unfold State.applySent
  split
  · split <;> exact ⟨_, _, _, _, rfl⟩
  all_goals exact ⟨_, _, _, _, rfl⟩

theorem engineWf_turnRound {c : Context} {f : Frame} (hr : s.Sends c f) (hl : s.ctsLoss = false)
    (hw : f.crcEnd ≤ f.sent) : (s.turnRound c).EngineWf := by
  have hlisten : c.exchange.slot?.isSome = true → State.EngineWf
      { s with
        engine := .listening, framer := none, receiver := Receiver.startHunt
        replyTimer := startTimer s.params.replyTimeout.toNat } := fun hs =>
    engineWf_of_fits ⟨c, ⟨⟨hr.context, hr.gapTimer, hr.settleTimer, hr.probeTimer, hr.followOn,
      hr.lineTest⟩, rfl, hr.ctsTimer, rfl, hl, hr.point.mpr hw, hs⟩, .inl rfl⟩
  unfold State.turnRound
  split
  · next b hb =>
    refine engineWf_endTurn (State.Ended.frame ?_ (slotFrame_endContext _ _))
    obtain ⟨_, _, _, _, e⟩ := slotFrame_applySent (s := s) b
    rw [e]
    exact ⟨rfl, hr.gapTimer, hr.ctsTimer, hr.replyTimer, hr.settleTimer, hr.probeTimer, hl,
      hr.lineTest⟩
  · next e => exact hlisten (by rw [e]; rfl)
  · next e => exact hlisten (by rw [e]; rfl)
  · next e => exact hlisten (by rw [e]; rfl)

/-- TESTING with the framer or the reply timer changed, neither of which it binds. -/
theorem State.Tests.engineWf (hr : s.Tests) (he : s.engine = .testing) (f : Option Frame)
    (r : Option Timer) : State.EngineWf { s with framer := f, replyTimer := r } := by
  refine engineWf_of_fits ?_
  unfold State.Fits
  simp only [he]
  exact ⟨hr.context, hr.gapTimer, hr.ctsTimer, hr.settleTimer, hr.probeTimer, hr.stopRequested,
    hr.ctsLoss, hr.followOn, hr.lineTest, hr.command, hr.phase⟩

theorem engineWf_testSent (hr : s.Tests) (he : s.engine = .testing) (l : LineTest) :
    (s.testSent l).EngineWf := by
  unfold State.testSent
  simp only
  split
  · exact engineWf_endTest hr.context _
  · split
    case h_1 => exact hr.engineWf he none _
    case h_2 => exact hr.engineWf he none _
    all_goals exact hr.engineWf he none s.replyTimer

theorem engineWf_lastPadOctetEnded (h : s.EngineWf) : s.lastPadOctetEnded.EngineWf := by
  unfold State.lastPadOctetEnded
  split
  · exact h
  · next f hf =>
    split
    · next hw =>
      split
      · next c he hc =>
        split
        · exact h
        · next hl =>
          obtain ⟨c', f', hr⟩ := h.sends he
          obtain rfl : c' = c := by simpa [hr.context] using hc
          obtain rfl : f' = f := by simpa [hr.framer] using hf
          exact engineWf_turnRound hr (by simpa using hl) hw
      · next l he _ => exact engineWf_testSent (h.tests he) he l
      · exact h
    · exact h

/-! #### Timer expiries -/

theorem engineWf_gapTimerExpiry (h : s.EngineWf) : s.gapTimerExpiry.EngineWf := by
  unfold State.gapTimerExpiry
  split
  · next hg =>
    have hr := h.gap hg.1
    exact engineWf_of_fits (show State.BetweenTurns _ false from
      ⟨⟨hr.context, hr.framer, hr.ctsTimer, hr.replyTimer, hr.ctsLoss, hr.lineTest, hr.phase⟩, rfl,
        hr.settleTimer, hr.probeTimer, hr.stopRequested⟩)
  · exact h

theorem engineWf_ctsTimerExpiry (h : s.EngineWf) : s.ctsTimerExpiry.EngineWf := by
  unfold State.ctsTimerExpiry
  split
  · exact engineWf_enterFault context_abandonExchange _
  · exact h

theorem engineWf_replyTimerExpiry (h : s.EngineWf) : s.replyTimerExpiry.EngineWf := by
  unfold State.replyTimerExpiry
  split
  · split
    case h_1 he =>
      obtain ⟨c, hr, _⟩ := h.listens he
      refine engineWf_endTurn ?_
      obtain ⟨_, _, _, _, _, _, _, e⟩ := slotFrame_missExchange (s := s)
      rw [e]
      exact ⟨rfl, hr.gapTimer, hr.ctsTimer, rfl, hr.settleTimer, hr.probeTimer, hr.ctsLoss,
        hr.lineTest⟩
    case h_2 he => exact engineWf_endTest (h.tests he).context _
    all_goals exact h
  · exact h

theorem engineWf_settleTimerExpiry (h : s.EngineWf) : s.settleTimerExpiry.EngineWf := by
  unfold State.settleTimerExpiry
  split
  · next hs => exact engineWf_enterFault (h.settles hs.1).context _
  · exact h

theorem engineWf_probeTimerExpiry (h : s.EngineWf) : s.probeTimerExpiry.EngineWf := by
  unfold State.probeTimerExpiry
  split
  · next hs =>
    have := h.probeTimer (startTimer s.params.probePeriod) (by rw [hs]; rfl)
    simp only
    split
    case h_1 => exact this.of_drive rfl rfl
    all_goals exact this
  · exact h

end

end Sys2Proof.Machine
end

section
namespace Sys2Proof.Machine

/-! ### Selection moves the engine from READY into an exchange (R43, R136) -/

section
variable {s t : State}

theorem Offer.followOn_orElse {a : Offer} {next : State → Offer} (ha : a.state.followOn = none)
    (hn : ∀ u : State, (next u).state.followOn = u.followOn) :
    (a.orElse next).state.followOn = none := by
  unfold Offer.orElse
  split
  · exact ha
  · exact (hn a.state).trans ha

/-- Every selection makes the follow-on absent (R45). -/
theorem followOn_choose (s : State) : s.choose.state.followOn = none := by
  have hfollow : s.offerFollowOn.state.followOn = none := by
    unfold State.offerFollowOn
    split
    · assumption
    · simp only
      split <;> rfl
  have hurgent : ∀ u : State, u.offerUrgent.state.followOn = u.followOn := fun u => by
    unfold State.offerUrgent
    split
    · rfl
    · simp only
      split
      · rfl
      · split <;> rfl
  have hgroup : ∀ u : State, u.offerGroup.state.followOn = u.followOn := fun u => by
    unfold State.offerGroup
    split <;> rfl
  have hprobe : ∀ u : State, u.offerProbe.state.followOn = u.followOn := fun u => by
    unfold State.offerProbe
    split
    · rfl
    all_goals split <;> rfl
  have hring : ∀ u : State, u.offerRing.state.followOn = u.followOn := fun u => by
    unfold State.offerRing
    split <;> rfl
  exact Offer.followOn_orElse (Offer.followOn_orElse (Offer.followOn_orElse
    (Offer.followOn_orElse hfollow hurgent) hgroup) hprobe) hring

theorem escapeOctet_ne_nil (lead pre o : Octet) : escapeOctet lead pre o ≠ [] := by
  unfold escapeOctet
  split <;> nofun

/-- The octets up to the last of the CRC are not none (R111). -/
theorem crcEnd_buildFrame_pos (p : Params) (k a ctl : Octet) (x : Option (List Octet)) :
    0 < (buildFrame p k a ctl x).crcEnd := by
  have hne : escapeAll p.leadOctet p.prefixOctet (withCrc (blockBody k a ctl x)) ≠ [] := by
    simp [escapeAll, withCrc, escapeOctet_ne_nil]
  have hpos := List.length_pos_iff.mpr hne
  simp only [Frame.crcEnd, buildFrame, List.length_append, List.length_replicate]
  omega

theorem point_composeContext (x : Exchange) : (s.composeContext x).point = .notSent := by
  cases x <;> rfl

theorem engineWf_beginExchange (x : Exchange) (h : s.BetweenTurns false) (hf : s.followOn = none) :
    (s.beginExchange x).EngineWf := by
  have hg : s.gapTimer = none := Option.not_isSome_iff_eq_none.mp (by rw [h.gapTimer]; nofun)
  have hturn : (s.beginExchange x).InTurn (s.composeContext x) :=
    ⟨rfl, hg, h.settleTimer, h.probeTimer, hf, h.lineTest⟩
  have hpos : 0 < (s.composeFrame x).crcEnd := crcEnd_buildFrame_pos _ _ _ _ _
  have hpt := point_composeContext (s := s) x
  refine engineWf_of_fits ?_
  unfold State.Fits
  cases hc : s.cts with
  | true =>
    have he : (s.beginExchange x).engine = .sending := by simp [State.beginExchange, hc]
    have ht : (s.beginExchange x).ctsTimer = none := by simp [State.beginExchange, hc]
    rw [he]
    refine ⟨_, _, hturn, rfl, ht, h.replyTimer, h.phase, ?_⟩
    rw [hpt]
    exact iff_of_false nofun (Nat.not_le.mpr hpos)
  | false =>
    have he : (s.beginExchange x).engine = .raising := by simp [State.beginExchange, hc]
    have ht : (s.beginExchange x).ctsTimer = startTimer s.params.ctsTimeout.toNat := by
      simp [State.beginExchange, hc]
    rw [he]
    exact ⟨_, _, hturn, rfl, by rw [ht]; rfl, h.replyTimer, h.ctsLoss, h.phase, hpt, hpos⟩

/-- A source passed over leaves the engine, its follow-on aside. -/
theorem Passes.betweenTurns (hp : Passes s t) (h : s.BetweenTurns false) :
    t.BetweenTurns false ∧ t.engine = s.engine := by
  obtain ⟨_, _, _, _, _, rfl, _⟩ := hp
  exact ⟨⟨⟨h.context, h.framer, h.ctsTimer, h.replyTimer, h.ctsLoss, h.lineTest, h.phase⟩,
    h.gapTimer, h.settleTimer, h.probeTimer, h.stopRequested⟩, rfl⟩

theorem engineWf_select (h : s.EngineWf) : s.select.EngineWf := by
  obtain e | ⟨he, _, _, e⟩ | ⟨x, he, _, _, e⟩ := select_cases s
  · rw [e]; exact h
  · rw [e]
    obtain ⟨hb, hc⟩ := choose_fits.1.betweenTurns (h.ready he)
    refine engineWf_of_fits ?_
    unfold State.Fits
    rw [hc.trans he]
    exact hb
  · rw [e]
    exact engineWf_beginExchange x (choose_fits.1.betweenTurns (h.ready he)).1 (followOn_choose s)

/-! ### The receiver's events (R123 to R127) -/

theorem State.hunts_cases (h : s.hunts = true) :
    (s.engine = .listening ∧ s.dcd = true) ∨ s.engine = .testing := by
  simpa [State.hunts] using h

theorem State.takesBody_cases (h : s.takesBody = true) :
    s.engine = .receiving ∨ s.engine = .testing := by
  simpa [State.takesBody] using h

theorem Receiver.hunt_phase (lead : Octet) (rx : Receiver) (bits : List Bool)
    (h : rx.phase = .hunting) : (Receiver.hunt lead rx bits).1.phase = .hunting ∨
      (Receiver.hunt lead rx bits).1.phase = .aligned := by
  induction bits generalizing rx with
  | nil => exact .inl h
  | cons b bs ih =>
    unfold Receiver.hunt
    simp only
    split
    · exact .inr rfl
    · exact ih _ h

theorem phaseAllowed_hunts (h : s.engine = .listening ∨ s.engine = .testing) {p : Phase}
    (hp : p = .hunting ∨ p = .aligned) : phaseAllowed s.engine p = true := by
  obtain h | h := h <;> obtain rfl | rfl := hp <;> rw [h] <;> rfl

theorem State.engine_of_hunts (h : s.hunts = true) :
    s.engine = .listening ∨ s.engine = .testing :=
  (State.hunts_cases h).imp_left And.left

theorem engineWf_octetAlignmentTaken (h : s.EngineWf) (bits : List Bool) :
    (s.octetAlignmentTaken bits).EngineWf := by
  unfold State.octetAlignmentTaken
  split
  · next hc =>
    exact h.receiver _ (phaseAllowed_hunts (State.engine_of_hunts hc.1)
      (Receiver.hunt_phase _ _ _ hc.2))
  · exact h

theorem engineWf_alignmentGivenUp (h : s.EngineWf) (o : Octet) :
    (s.alignmentGivenUp o).EngineWf := by
  unfold State.alignmentGivenUp
  split
  · next hc => exact h.receiver _ (phaseAllowed_hunts (State.engine_of_hunts hc.1) (.inl rfl))
  · exact h

theorem engineWf_leadDetected (h : s.EngineWf) : s.leadDetected.EngineWf := by
  unfold State.leadDetected
  split
  · next hc =>
    refine engineWf_of_fits ?_
    unfold State.Fits
    obtain ⟨he, hd⟩ | he := State.hunts_cases hc.1
    · obtain ⟨c, hr, _⟩ := h.listens he
      simp only [he, if_true]
      exact ⟨c, ⟨⟨hr.context, hr.gapTimer, hr.settleTimer, hr.probeTimer, hr.followOn, hr.lineTest⟩,
        hr.framer, hr.ctsTimer, rfl, hr.ctsLoss, hr.point, hr.slot⟩, rfl, hd⟩
    · have hr := h.tests he
      simp only [he, reduceCtorEq, if_false]
      exact ⟨hr.context, hr.gapTimer, hr.ctsTimer, hr.settleTimer, hr.probeTimer, hr.stopRequested,
        hr.ctsLoss, hr.followOn, hr.lineTest, hr.command, nofun⟩
  · exact h

theorem Receiver.decode_more {rx rx' : Receiver} {testing : Bool} {v : Octet}
    (h : rx.decode testing v = .more rx') : rx'.phase = rx.phase := by
  unfold Receiver.decode at h
  split at h
  · split at h <;> cases h
    rfl
  · cases h; rfl
  · cases h; rfl
  · split at h
    · split at h <;> cases h
      rfl
    · split at h
      · cases h; rfl
      · split at h
        · cases h; rfl
        · split at h <;> cases h

/-- An octet that does not judge the block leaves the phase (R125). -/
theorem Receiver.take_more {rx rx' : Receiver} {lead pre : Octet} {testing : Bool} {o : Octet}
    (h : rx.take lead pre testing o = .more rx') : rx'.phase = rx.phase := by
  unfold Receiver.take at h
  split at h
  · split at h
    · exact decode_more (rx := { rx with escapeOpen := false }) h
    · split at h
      · exact decode_more (rx := { rx with escapeOpen := false }) h
      · cases h
  · split at h
    · split at h <;> cases h
      rfl
    · split at h
      · cases h; rfl
      · exact decode_more h

theorem phaseAllowed_body (h : s.engine = .receiving ∨ s.engine = .testing) :
    phaseAllowed s.engine .body = true := by
  obtain h | h := h <;> rw [h] <;> rfl

theorem engineWf_bodyOctetDecoded (h : s.EngineWf) (o : Octet) :
    (s.bodyOctetDecoded o).EngineWf := by
  unfold State.bodyOctetDecoded
  split
  · next hc =>
    split
    · next rx hm =>
      refine h.receiver rx ?_
      have : rx.phase = .body := (Receiver.take_more hm).trans hc.2
      rw [this]
      exact phaseAllowed_body (State.takesBody_cases hc.1)
    · exact h
  · exact h

theorem engineWf_replyJudged (h : s.EngineWf) (he : s.engine = .receiving) {c : Context}
    (hc : s.context = some c) (j : Judgement) : (s.replyJudged c j).EngineWf := by
  obtain ⟨c', hr, _⟩ := h.receives he
  have hrep : s.replyTimer = none :=
    Option.not_isSome_iff_eq_none.mp (by rw [hr.replyTimer]; nofun)
  have hf := (slotFrame_applyJudgement c j hc).ended c.exchange
  refine engineWf_enterSettling ((hr.toInTurn.ended hr.ctsTimer hrep hr.ctsLoss).frame hf) ?_
  obtain ⟨_, _, _, _, _, _, _, e⟩ := hf
  rw [e]; exact hr.framer

theorem engineWf_testJudged (h : s.EngineWf) (he : s.engine = .testing) (l : LineTest)
    (rx : Receiver) (j : Judgement) (hp : rx.phase = .ended) : (s.testJudged l rx j).EngineWf := by
  have hr := h.tests he
  unfold State.testJudged
  simp only
  split
  · exact engineWf_endTest hr.context _
  · refine engineWf_of_fits ?_
    unfold State.Fits
    simp only [he]
    exact ⟨hr.context, hr.gapTimer, hr.ctsTimer, hr.settleTimer, hr.probeTimer, hr.stopRequested,
      hr.ctsLoss, hr.followOn, rfl, hr.command, by rw [hp]; nofun⟩

theorem engineWf_blockJudged (h : s.EngineWf) (o : Octet) : (s.blockJudged o).EngineWf := by
  unfold State.blockJudged
  split
  · split
    · exact h
    · next rx j hj =>
      split
      · next c he hc => exact engineWf_replyJudged h he hc j
      · next l he _ =>
        exact engineWf_testJudged h he l rx j (Receiver.take_judged _ _ _ _ _ _ _ hj).1
      · exact h
  · exact h

/-! ### The engine under an octet time (R120, R129, R134) -/

theorem engineWf_huntLoop (h : s.EngineWf) (hp : s.receiver.phase = .hunting) (bits : List Bool) :
    (s.huntLoop bits).EngineWf := by
  have he : s.engine = .listening ∨ s.engine = .testing := by
    obtain ⟨_, _, _, _, _, _, _, _, _, _, _, _, _, _, _, hph, _⟩ := h
    rw [hp] at hph
    cases he : s.engine <;> rw [he] at hph <;> simp_all [phaseAllowed]
  exact h.receiver _ (phaseAllowed_hunts he (Receiver.hunt_phase _ _ _ hp))

theorem engineWf_octetBits (h : s.EngineWf) (bits : List Bool) :
    State.EngineWf { s with receiver := { s.receiver with octetBits := bits } } :=
  h.of_drive rfl rfl

/-- The framer goes on by an octet that is not the last of the CRC (R120). -/
theorem engineWf_advanceFramer (h : s.EngineWf)
    (hn : s.engine = .testing ∨ s.engine = .stopped ∨ s.endsCrc = false) :
    s.advanceFramer.EngineWf := by
  obtain ⟨h1, h2, h3, h4, h5, h6, h7, h8, h9, h10, h11, h12, h13, h14, h15, h16, h17⟩ := h
  refine ⟨h1, fun he => ?_, fun hf => h3 ?_, h4, h5, h6, h7, h8, h9, h10, h11, h12, h13, h14, h15,
    h16, fun c hc => ?_⟩
  · simpa [State.advanceFramer] using h2 he
  · simpa [State.advanceFramer] using hf
  · obtain ⟨hpt, hw, hl⟩ := h17 c hc
    refine ⟨hpt, fun f hf => ?_, hl⟩
    obtain ⟨g, hg, rfl⟩ : ∃ g, s.framer = some g ∧ { g with sent := g.sent + 1 } = f := by
      simpa [State.advanceFramer] using hf
    have hctx : s.engine.inExchange = true := by
      rw [← h1]
      exact Option.isSome_iff_exists.mpr ⟨c, hc⟩
    have hne : g.sent + 1 ≠ g.crcEnd := by
      obtain he | he | he := hn
      · rw [he] at hctx; cases hctx
      · rw [he] at hctx; cases hctx
      · simpa [State.endsCrc, hg] using he
    rw [hw g hg]
    show g.crcEnd ≤ g.sent ↔ g.crcEnd ≤ g.sent + 1
    omega

end

end Sys2Proof.Machine
end

section
namespace Sys2Proof.Machine

/-! ### The commands that leave the line as it is (chapters 1, 2, 4, 5) -/

/-- What the commands of the Station Table, the Poll Ring, the Text Store and the Attention Unit leave as it is. -/
structure LineSide where
  drive : Drive
  receiver : Receiver
  probePass : ProbePass
  probeCursor : Nat
  params : Params
  argumentBlock : List Octet

def State.lineSide (s : State) : LineSide :=
  { drive := s.drive, receiver := s.receiver, probePass := s.probePass, probeCursor := s.probeCursor
    params := s.params, argumentBlock := s.argumentBlock }

/-- The line and the parameters unchanged, and the staging text kept or queued. -/
structure SameLine (s t : State) : Prop where
  line : t.lineSide = s.lineSide
  staging : t.staging = s.staging ∨ t.staging = []

section
variable {s t : State}

theorem SameLine.refl (s : State) : SameLine s s := ⟨rfl, .inl rfl⟩

theorem SameLine.trans {u : State} (h : SameLine s t) (h' : SameLine t u) : SameLine s u :=
  ⟨h'.line.trans h.line, h'.staging.elim (fun e => e ▸ h.staging) .inr⟩

theorem sameLine_appendUrgent (i : Slot) : SameLine s (s.appendUrgent i) := by
  unfold State.appendUrgent
  split <;> exact ⟨rfl, .inl rfl⟩

theorem sameLine_freeText (i : Slot) : SameLine s (s.freeText i) := by
  rw [State.freeText_frame]; exact ⟨rfl, .inl rfl⟩

theorem sameLine_testRetired (i : Slot) : SameLine s (s.testRetired i) := by
  rw [State.testRetired_frame]; exact ⟨rfl, .inl rfl⟩

theorem sameLine_retire (i : Slot) : SameLine s (s.retire i) := by
  rw [State.retire_eq]
  refine SameLine.trans ?_ (sameLine_testRetired i)
  split
  · exact SameLine.trans (t := s.unlisted i) ⟨rfl, .inl rfl⟩ (sameLine_freeText i)
  · exact ⟨rfl, .inl rfl⟩

theorem sameLine_withSlot (o : Octet) (k : Slot → Completion) (h : ∀ i, SameLine s (k i).state) :
    SameLine s (withSlot o s k).state := by
  unfold withSlot
  split
  · exact h _
  · exact .refl s

theorem sameLine_admitStation (args : List Octet) : SameLine s (admitStation args s).state := by
  simp only [admitStation]
  split
  · exact .refl s
  · split
    · exact .refl s
    · split
      · exact .refl s
      · next i _ =>
        exact SameLine.trans (t := s.setRecord i _) ⟨rfl, .inl rfl⟩ (sameLine_appendUrgent _)

theorem sameLine_findStation (args : List Octet) : SameLine s (findStation args s).state := by
  simp only [findStation]
  split
  · split <;> exact .refl s
  · exact .refl s

theorem sameLine_modifyStation (rule : Slot → Octet → State → Completion) (args : List Octet)
    (h : ∀ i v, SameLine s (rule i v s).state) : SameLine s (modifyStation rule args s).state := by
  refine sameLine_withSlot _ _ fun i => ?_
  split
  · exact .refl s
  · split
    · exact .refl s
    · exact .refl s
    · exact h _ _
    · exact h _ _

theorem sameLine_modifyAddress (i : Slot) (v : Octet) : SameLine s (modifyAddress i v s).state := by
  have hset : ∀ k : Bool, SameLine s
      (if isIndividualAddress v = false then refuse s .badAddress
      else if s.addressHeldByOther i v = true then refuse s .addressInUse
      else answer (s.modRecord i fun r =>
        { r with address := v, resyncPending := r.resyncPending || k }) .ok []).state := by
    intro k
    split
    · exact .refl s
    · split
      · exact .refl s
      · exact ⟨rfl, .inl rfl⟩
  unfold modifyAddress
  split
  case h_5 | h_6 | h_7 => exact hset _
  all_goals exact .refl s

theorem sameLine_modifyGroup (i : Slot) (v : Octet) : SameLine s (modifyGroup i v s).state := by
  unfold modifyGroup
  split <;> exact ⟨rfl, .inl rfl⟩

theorem sameLine_holdStation (args : List Octet) : SameLine s (holdStation args s).state := by
  refine sameLine_withSlot _ _ fun i => ?_
  split <;> exact ⟨rfl, .inl rfl⟩

theorem sameLine_releaseStation (args : List Octet) :
    SameLine s (releaseStation args s).state := by
  refine sameLine_withSlot _ _ fun i => ?_
  split
  case h_6 =>
    exact SameLine.trans (t := s.modRecord i _) ⟨rfl, .inl rfl⟩ (sameLine_appendUrgent i)
  all_goals exact ⟨rfl, .inl rfl⟩

theorem sameLine_retireStation (args : List Octet) : SameLine s (retireStation args s).state := by
  refine sameLine_withSlot _ _ fun i => ?_
  split
  case h_3 | h_4 => exact sameLine_retire i
  all_goals exact .refl s

theorem sameLine_syncStation (args : List Octet) : SameLine s (syncStation args s).state := by
  refine sameLine_withSlot _ _ fun i => ?_
  split <;> exact ⟨rfl, .inl rfl⟩

theorem sameLine_ringInsert (args : List Octet) : SameLine s (ringInsert args s).state := by
  have hset : ∀ (i : Slot) (p : Nat), SameLine s
      (if s.ring.length < p then refuse s .badPosition
      else if Config.ringCapacity ≤ s.ring.length then refuse s .ringFull
      else if Config.ringEntriesPerSlot ≤ (s.record i).ringCount then refuse s .slotLimit
      else answer { s.modRecord i (fun r => { r with ringCount := r.ringCount + 1 }) with
        ring := s.ring.take p ++ i :: s.ring.drop p
        ringCursor := cursorAfterInsert s.ring.length p s.ringCursor } .ok []).state := by
    intro i p
    split
    · exact .refl s
    · split
      · exact .refl s
      · split
        · exact .refl s
        · exact ⟨rfl, .inl rfl⟩
  refine sameLine_withSlot _ _ fun i => ?_
  split
  case h_3 | h_4 => exact hset _ _
  all_goals exact .refl s

theorem sameLine_ringRemove (args : List Octet) : SameLine s (ringRemove args s).state := by
  simp only [ringRemove]
  split
  · exact .refl s
  · exact ⟨rfl, .inl rfl⟩

theorem sameLine_ringRead (args : List Octet) : SameLine s (ringRead args s).state := by
  unfold ringRead
  split <;> exact .refl s

theorem sameLine_pollNow (args : List Octet) : SameLine s (pollNow args s).state := by
  refine sameLine_withSlot _ _ fun i => ?_
  split
  case h_4 =>
    split
    · exact .refl s
    · split
      · exact .refl s
      · exact ⟨rfl, .inl rfl⟩
  all_goals exact .refl s

theorem sameLine_queueText (args : List Octet) : SameLine s (queueText args s).state := by
  refine sameLine_withSlot _ _ fun i => ?_
  split
  · exact .refl s
  · split
    · exact .refl s
    · split
      · exact .refl s
      · split
        · exact ⟨rfl, .inl rfl⟩
        · exact ⟨rfl, .inr rfl⟩

theorem sameLine_queueGroupText (args : List Octet) :
    SameLine s (queueGroupText args s).state := by
  simp only [queueGroupText]
  split
  · exact .refl s
  · split
    · exact .refl s
    · split
      · exact ⟨rfl, .inl rfl⟩
      · exact ⟨rfl, .inr rfl⟩

theorem sameLine_cancelFilled (i : Slot) : SameLine s (s.cancelFilled i) := by
  unfold State.cancelFilled
  split
  · exact sameLine_freeText i
  · exact (sameLine_freeText i).trans ⟨rfl, .inl rfl⟩

theorem sameLine_cancelText (args : List Octet) : SameLine s (cancelText args s).state := by
  refine sameLine_withSlot _ _ fun i => ?_
  split
  · exact .refl s
  · split
    · exact .refl s
    · split
      · exact ⟨rfl, .inl rfl⟩
      · exact sameLine_cancelFilled i

theorem sameLine_readInbound (args : List Octet) : SameLine s (readInbound args s).state := by
  unfold readInbound
  split <;> exact ⟨rfl, .inl rfl⟩

theorem sameLine_releaseInbound (args : List Octet) :
    SameLine s (releaseInbound args s).state := by
  unfold releaseInbound
  split
  · exact .refl s
  · next x rest _ =>
    exact SameLine.trans (t := s.dropInbound x rest) ⟨rfl, .inl rfl⟩ (sameLine_testRetired _)

theorem sameLine_nextAttention (args : List Octet) : SameLine s (nextAttention args s).state := by
  unfold nextAttention
  split <;> exact ⟨rfl, .inl rfl⟩

end

end Sys2Proof.Machine
end

section
namespace Sys2Proof.Machine

/-! ### The receiver's fields under each octet and bit (R115, R122 to R126) -/

/-- The receiver in BODY: what has been decoded, by the decoded count (R126). -/
structure Receiver.BodyWf (rx : Receiver) (testing : Bool) : Prop where
  lengths : ∀ n ∈ rx.length, 1 ≤ n ∧ n ≤ 128
  kind : rx.decoded = 0 ∨ validKind testing rx.kind = true
  early : rx.decoded ≤ 3 → rx.length = none ∧ rx.assembly = []
  plain : 4 ≤ rx.decoded → kindHasLength rx.kind = false →
    rx.decoded = 4 ∧ rx.length = none ∧ rx.assembly = []
  lengthy : 4 ≤ rx.decoded → kindHasLength rx.kind = true →
    ∃ n ∈ rx.length, rx.decoded ≤ n + 5 ∧ rx.assembly.length = min (rx.decoded - 4) n ∧
      (rx.kind = kindStatus → n = 1)

section
variable {rx rx' : Receiver} {testing : Bool}

theorem Receiver.Wf.body (h : rx.Wf testing) (hp : rx.phase = .body) : rx.BodyWf testing := by
  obtain ⟨_, _, _, hl, _, _, _, _, _, hb⟩ := h
  obtain ⟨h1, h2, h3, h4⟩ := hb hp
  exact ⟨hl, h1, h2, h3, h4⟩

/-- The decoded count and the assembly area are bounded by what the block holds (R115). -/
theorem Receiver.BodyWf.bounds (h : rx.BodyWf testing) :
    rx.decoded ≤ 133 ∧ rx.assembly.length ≤ 128 := by
  by_cases hd : rx.decoded ≤ 3
  · rw [(h.early hd).2]
    exact ⟨by omega, by simp⟩
  · cases hk : kindHasLength rx.kind with
    | false =>
      obtain ⟨he, _, ha⟩ := h.plain (by omega) hk
      rw [ha]
      exact ⟨by omega, by simp⟩
    | true =>
      obtain ⟨n, hn, hle, ha, _⟩ := h.lengthy (by omega) hk
      have := (h.lengths n hn).2
      omega

theorem Receiver.wf_of_body (h : rx.BodyWf testing) (hp : rx.phase = .body)
    (hw : rx.window.length ≤ 8) (hb : rx.octetBits.length ≤ 7) : rx.Wf testing := by
  obtain ⟨hd, ha⟩ := h.bounds
  refine ⟨hw, by omega, ha, h.lengths, ?_, ?_, hb, fun _ => .inr hp, ?_, fun _ =>
    ⟨h.kind, h.early, h.plain, h.lengthy⟩⟩
  all_goals rw [hp]; nofun

theorem Receiver.wf_of_ended (hp : rx.phase = .ended) (he : rx.escapeOpen = false)
    (hd : rx.decoded ≤ 134) (ha : rx.assembly.length ≤ 128) (hl : ∀ n ∈ rx.length, 1 ≤ n ∧ n ≤ 128)
    (hw : rx.window.length ≤ 8) (hb : rx.octetBits = []) : rx.Wf testing := by
  refine ⟨hw, hd, ha, hl, ?_, ?_, by rw [hb]; decide, fun h => absurd hb h, fun _ => he, ?_⟩
  all_goals rw [hp]; nofun

/-- OFF, HUNTING and ALIGNED: nothing but the window and the octet in assembly is held. -/
theorem Receiver.wf_of_hunts {p : Phase} {w bits : List Bool}
    (hp : p = .hunting ∧ bits = [] ∨ p = .aligned) (hw : w.length ≤ 8) (hb : bits.length ≤ 7) :
    Receiver.Wf { Receiver.off with phase := p, window := w, octetBits := bits } testing := by
  refine ⟨hw, Nat.zero_le _, Nat.zero_le _, nofun, fun h => ?_, fun _ => rfl, hb, fun h => ?_, fun _ => rfl,
    fun h => ?_⟩
  all_goals obtain ⟨rfl, hn⟩ | rfl := hp
  · cases h
  · cases h
  · exact absurd hn h
  · exact .inl rfl
  · cases h
  · cases h

theorem Receiver.wf_off : Receiver.off.Wf testing :=
  ⟨by decide, by decide, by decide, nofun, fun _ => rfl, fun _ => rfl, by decide, fun h => absurd rfl h,
    fun _ => rfl, nofun⟩

theorem Receiver.wf_startHunt : Receiver.startHunt.Wf testing :=
  wf_of_hunts (.inl ⟨rfl, rfl⟩) (by decide) (by decide)

/-- In HUNTING and ALIGNED the receiver is what its phase, window and octet in assembly say. -/
theorem Receiver.Wf.hunts (h : rx.Wf testing) (hp : rx.phase = .hunting ∨ rx.phase = .aligned) :
    rx = { Receiver.off with phase := rx.phase, window := rx.window, octetBits := rx.octetBits } := by
  obtain ⟨_, _, _, _, _, hh, _⟩ := h
  exact hh hp

theorem Receiver.Wf.noBits (h : rx.Wf testing) (hp : rx.phase = .hunting) : rx.octetBits = [] := by
  obtain ⟨_, _, _, _, _, _, _, hb, _⟩ := h
  by_contra hn
  obtain e | e := hb hn <;> rw [hp] at e <;> cases e

theorem Receiver.Wf.window (h : rx.Wf testing) : rx.window.length ≤ 8 := h.1

theorem Receiver.Wf.bits (h : rx.Wf testing) : rx.octetBits.length ≤ 7 := by
  obtain ⟨_, _, _, _, _, _, hb, _⟩ := h
  exact hb

/-! #### The hunt -/

theorem length_shiftWindow (w : List Bool) (b : Bool) (h : w.length ≤ 8) :
    (shiftWindow w b).length ≤ 8 := by
  unfold shiftWindow
  split
  · simp; omega
  · simp; omega

/-- What a hunt leaves: the window moved, and at a match the alignment and fewer bits behind. -/
theorem Receiver.hunt_spec (lead : Octet) (rx : Receiver) (bits : List Bool)
    (hw : rx.window.length ≤ 8) : ∃ w : List Bool, w.length ≤ 8 ∧
      ((Receiver.hunt lead rx bits = ({ rx with window := w }, [])) ∨
        ∃ rest, Receiver.hunt lead rx bits = ({ rx with phase := .aligned, window := w }, rest) ∧
          rest.length + 1 ≤ bits.length) := by
  induction bits generalizing rx with
  | nil => exact ⟨rx.window, hw, .inl rfl⟩
  | cons b bs ih =>
    unfold Receiver.hunt
    simp only
    split
    · exact ⟨lineBits lead, Nat.le_refl 8, .inr ⟨bs, rfl, Nat.le_refl _⟩⟩
    · obtain ⟨w, hl, e | ⟨rest, e, hr⟩⟩ :=
        ih { rx with window := shiftWindow rx.window b } (length_shiftWindow _ _ hw)
      · exact ⟨w, hl, .inl e⟩
      · exact ⟨w, hl, .inr ⟨rest, e, by rw [List.length_cons]; omega⟩⟩

/-- The receiver after a hunt of at most eight bits, those behind a match kept or dropped (R123). -/
theorem Receiver.wf_hunt (lead : Octet) (bits : List Bool) (h : rx.Wf testing)
    (hp : rx.phase = .hunting) :
    (Receiver.hunt lead rx bits).1.Wf testing ∧
      (bits.length ≤ 8 → Receiver.Wf { (Receiver.hunt lead rx bits).1 with
        octetBits := (Receiver.hunt lead rx bits).2 } testing) := by
  obtain ⟨w, hw, e | ⟨rest, e, hr⟩⟩ := Receiver.hunt_spec lead rx bits h.window
  all_goals
    rw [e, h.hunts (.inl hp), h.noBits hp]
    simp only [hp]
  · exact ⟨wf_of_hunts (.inl ⟨rfl, rfl⟩) hw (by decide),
      fun _ => wf_of_hunts (.inl ⟨rfl, rfl⟩) hw (by decide)⟩
  · exact ⟨wf_of_hunts (.inr rfl) hw (by decide),
      fun hb => wf_of_hunts (.inr rfl) hw (by omega)⟩

theorem Receiver.wf_giveUp (o : Octet) (h : rx.Wf testing) (hp : rx.phase = .aligned) :
    (rx.giveUp o).Wf testing := by
  rw [h.hunts (.inr hp)]
  exact wf_of_hunts (.inl ⟨rfl, rfl⟩) (Nat.le_refl 8) (by decide)

theorem Receiver.wf_loseCarrier (h : rx.Wf testing) : rx.loseCarrier.Wf testing := by
  unfold Receiver.loseCarrier
  split
  case h_1 hp =>
    rw [h.hunts (.inl hp)]
    exact wf_of_hunts (.inl ⟨rfl, rfl⟩) (by decide) (by decide)
  case h_2 hp =>
    rw [h.hunts (.inr hp)]
    exact wf_of_hunts (.inl ⟨rfl, rfl⟩) (by decide) (by decide)
  all_goals exact h

theorem Receiver.wf_octetBits (h : rx.Wf testing) (bits : List Bool) (hb : bits.length ≤ 7)
    (hp : rx.phase = .aligned ∨ rx.phase = .body) :
    Receiver.Wf { rx with octetBits := bits } testing := by
  obtain hp | hp := hp
  · rw [h.hunts (.inr hp)]
    simp only [hp]
    exact wf_of_hunts (.inr rfl) h.window hb
  · obtain ⟨h1, h2, h3, h4, h5⟩ := h.body hp
    exact wf_of_body ⟨h1, h2, h3, h4, h5⟩ hp h.window hb

theorem Receiver.wf_enterBody (h : rx.Wf testing) (hp : rx.phase = .aligned) (t' : Bool) :
    rx.enterBody.Wf t' := by
  rw [h.hunts (.inr hp)]
  refine wf_of_body ⟨nofun, .inl rfl, fun _ => ⟨rfl, rfl⟩, ?_, ?_⟩ rfl
    (Nat.zero_le _) (Nat.zero_le _)
  · exact fun h => absurd h (Nat.not_succ_le_zero 3)
  · exact fun h => absurd h (Nat.not_succ_le_zero 3)

/-! #### Whole octets -/

theorem bounds_of_lengthAccepted {k l : Octet} (h : lengthAccepted k l = true) :
    (1 ≤ l.toNat ∧ l.toNat ≤ 128) ∧ (k = kindStatus → l.toNat = 1) := by
  unfold lengthAccepted at h
  split at h
  · have : l = 1 := by simpa using h
    subst this
    exact ⟨by decide, fun _ => rfl⟩
  · next hk => exact ⟨by simpa using h, fun e => absurd e hk⟩

theorem Receiver.bodyEnd_cases (rx : Receiver) :
    (kindHasLength rx.kind = false ∧ rx.bodyEnd = some 3) ∨
    (kindHasLength rx.kind = true ∧ rx.length = none ∧ rx.bodyEnd = none) ∨
    ∃ n, kindHasLength rx.kind = true ∧ rx.length = some n ∧ rx.bodyEnd = some (n + 4) := by
  unfold Receiver.bodyEnd
  cases hk : kindHasLength rx.kind with
  | false => exact .inl ⟨rfl, rfl⟩
  | true =>
    cases hl : rx.length with
    | none => exact .inr (.inl ⟨rfl, rfl, rfl⟩)
    | some n => exact .inr (.inr ⟨n, rfl, rfl, rfl⟩)

/-- A decoded octet that does not judge the block keeps the bounds of the body (R125, R126). -/
theorem Receiver.bodyWf_decode {v : Octet} (h : rx.BodyWf testing)
    (hd : rx.decode testing v = .more rx') :
    rx'.BodyWf testing ∧ rx'.window = rx.window ∧ rx'.octetBits = rx.octetBits := by
  unfold Receiver.decode at hd
  split at hd
  · next h0 =>
    obtain ⟨hl, ha⟩ := h.early (by omega)
    split at hd <;> cases hd
    next hk =>
    refine ⟨⟨h.lengths, .inr hk, fun _ => ⟨hl, ha⟩, fun h4 => ?_, fun h4 => ?_⟩, rfl, rfl⟩
    all_goals
      have : 4 ≤ rx.decoded + 1 := h4
      omega
  · next h1 =>
    obtain ⟨hl, ha⟩ := h.early (by omega)
    cases hd
    refine ⟨⟨h.lengths, .inr (h.kind.resolve_left (by omega)), fun _ => ⟨hl, ha⟩, fun h4 => ?_,
      fun h4 => ?_⟩, rfl, rfl⟩
    all_goals
      have : 4 ≤ rx.decoded + 1 := h4
      omega
  · next h2 =>
    obtain ⟨hl, ha⟩ := h.early (by omega)
    cases hd
    refine ⟨⟨h.lengths, .inr (h.kind.resolve_left (by omega)), fun _ => ⟨hl, ha⟩, fun h4 => ?_,
      fun h4 => ?_⟩, rfl, rfl⟩
    all_goals
      have : 4 ≤ rx.decoded + 1 := h4
      omega
  · next n hn =>
    have hkind : rx.decoded + 1 = 0 ∨ validKind testing rx.kind = true :=
      .inr (h.kind.resolve_left (by omega))
    obtain ⟨hk, he⟩ | ⟨hk, hl, he⟩ | ⟨m, hk, hl, he⟩ := rx.bodyEnd_cases
    · rw [he] at hd
      simp only at hd
      rw [if_neg (by omega)] at hd
      split at hd
      · next h3 =>
        cases hd
        obtain ⟨hl, ha⟩ := h.early (by omega)
        refine ⟨⟨h.lengths, hkind, fun h3' => ?_, fun _ _ => ⟨?_, hl, ha⟩, fun _ hk' => ?_⟩, rfl, rfl⟩
        · have : rx.decoded + 1 ≤ 3 := h3'
          omega
        · show rx.decoded + 1 = 4
          omega
        · exact absurd (hk'.symm.trans hk) (by decide)
      · split at hd <;> cases hd
    · rw [he] at hd
      simp only at hd
      split at hd <;> cases hd
      next hv =>
      obtain ⟨hb, hs⟩ := bounds_of_lengthAccepted hv
      have h3 : rx.decoded = 3 := by
        by_contra h3
        obtain ⟨n, hn', _⟩ := h.lengthy (by omega) hk
        rw [hl] at hn'; cases hn'
      have ha := (h.early (by omega)).2
      refine ⟨⟨fun n hn' => by cases hn'; exact hb, hkind, fun h3' => ?_, fun _ hk' => ?_,
        fun _ _ => ⟨v.toNat, rfl, ?_, ?_, hs⟩⟩, rfl, rfl⟩
      · have : rx.decoded + 1 ≤ 3 := h3'
        omega
      · exact absurd (hk.symm.trans hk') (by decide)
      · show rx.decoded + 1 ≤ _
        omega
      · show rx.assembly.length = min (rx.decoded + 1 - 4) v.toNat
        rw [ha, h3]; simp
    · have h4 : 4 ≤ rx.decoded := by
        by_contra h4
        have := (h.early (by omega)).1
        rw [hl] at this; cases this
      obtain ⟨m', hm', hle, ha, hs⟩ := h.lengthy h4 hk
      obtain rfl : m = m' := by simpa [hl] using hm'
      rw [he] at hd
      simp only at hd
      split at hd
      · next hlt =>
        cases hd
        refine ⟨⟨h.lengths, hkind, fun h3' => ?_, fun _ hk' => ?_, fun _ _ => ⟨m, hm', ?_, ?_, hs⟩⟩,
          rfl, rfl⟩
        · have : rx.decoded + 1 ≤ 3 := h3'
          omega
        · exact absurd (hk.symm.trans hk') (by decide)
        · show rx.decoded + 1 ≤ _
          omega
        · show (rx.assembly ++ [v]).length = min (rx.decoded + 1 - 4) m
          rw [List.length_append, List.length_singleton, ha]
          omega
      · split at hd
        · next heq =>
          cases hd
          refine ⟨⟨h.lengths, hkind, fun h3' => ?_, fun _ hk' => ?_,
            fun _ _ => ⟨m, hm', ?_, ?_, hs⟩⟩, rfl, rfl⟩
          · have : rx.decoded + 1 ≤ 3 := h3'
            omega
          · exact absurd (hk.symm.trans hk') (by decide)
          · show rx.decoded + 1 ≤ _
            omega
          · show rx.assembly.length = min (rx.decoded + 1 - 4) m
            omega
        · split at hd <;> cases hd

/-- An octet that does not judge the block keeps the receiver's bounds in BODY (R125). -/
theorem Receiver.wf_take_more {lead pre o : Octet} (h : rx.Wf testing) (hp : rx.phase = .body)
    (ht : rx.endOctet.take lead pre testing o = .more rx') : rx'.Wf testing := by
  have hbody := h.body hp
  have hphase : rx'.phase = .body := (Receiver.take_more ht).trans hp
  have hdec : ∀ (e : Bool) (v : Octet),
      Receiver.decode { rx.endOctet with escapeOpen := e } testing v = .more rx' → rx'.Wf testing := by
    intro e v hv
    obtain ⟨hb, hw, hbits⟩ := Receiver.bodyWf_decode
      (rx := { rx.endOctet with escapeOpen := e })
      ⟨hbody.lengths, hbody.kind, hbody.early, hbody.plain, hbody.lengthy⟩ hv
    exact wf_of_body hb hphase (by rw [hw]; exact h.window) (by rw [hbits]; exact Nat.zero_le _)
  have hsame : ∀ e : Bool, Receiver.Wf { rx.endOctet with escapeOpen := e } testing := fun e =>
    wf_of_body ⟨hbody.lengths, hbody.kind, hbody.early, hbody.plain, hbody.lengthy⟩ hp h.window
      (Nat.zero_le _)
  unfold Receiver.take at ht
  split at ht
  · split at ht
    · exact hdec false _ ht
    · split at ht
      · exact hdec false _ ht
      · cases ht
  · split at ht
    · split at ht <;> cases ht
      exact hsame rx.endOctet.escapeOpen
    · split at ht
      · cases ht; exact hsame true
      · exact hdec rx.endOctet.escapeOpen _ ht

/-- A decoded octet that judges the block leaves the assembly area, the length and the window. -/
theorem Receiver.decode_judged_frame {v : Octet} {j : Judgement}
    (h : rx.decode testing v = .judged rx' j) : rx'.assembly = rx.assembly ∧ rx'.length = rx.length ∧
      rx'.window = rx.window ∧ rx'.octetBits = rx.octetBits := by
  unfold Receiver.decode at h
  split at h
  · split at h <;> cases h
    exact ⟨rfl, rfl, rfl, rfl⟩
  · cases h
  · cases h
  · split at h
    · split at h <;> cases h
      exact ⟨rfl, rfl, rfl, rfl⟩
    · split at h
      · cases h
      · split at h
        · cases h
        · split at h <;> cases h <;> exact ⟨rfl, rfl, rfl, rfl⟩

theorem Receiver.take_judged_frame {lead pre o : Octet} {j : Judgement}
    (h : rx.take lead pre testing o = .judged rx' j) : rx'.assembly = rx.assembly ∧
      rx'.length = rx.length ∧ rx'.window = rx.window ∧ rx'.octetBits = rx.octetBits ∧
      rx'.decoded ≤ rx.decoded + 1 := by
  have hdec : ∀ (e : Bool) (v : Octet),
      Receiver.decode { rx with escapeOpen := e } testing v = .judged rx' j →
      rx'.assembly = rx.assembly ∧ rx'.length = rx.length ∧ rx'.window = rx.window ∧
        rx'.octetBits = rx.octetBits ∧ rx'.decoded ≤ rx.decoded + 1 := by
    intro e v hv
    obtain ⟨h1, h2, h3, h4⟩ := Receiver.decode_judged_frame hv
    exact ⟨h1, h2, h3, h4, (Receiver.decode_judged _ _ _ _ _ hv).2.1.le⟩
  unfold Receiver.take at h
  split at h
  · split at h
    · exact hdec false _ h
    · split at h
      · exact hdec false _ h
      · cases h; exact ⟨rfl, rfl, rfl, rfl, Nat.le_succ _⟩
  · split at h
    · split at h <;> cases h
      exact ⟨rfl, rfl, rfl, rfl, Nat.le_succ _⟩
    · split at h
      · cases h
      · exact hdec rx.escapeOpen _ h

/-- The octet that judges a block leaves the receiver in its bounds (R127). -/
theorem Receiver.wf_take_judged {lead pre o : Octet} {j : Judgement} (t' : Bool)
    (h : rx.Wf testing) (hp : rx.phase = .body)
    (ht : rx.endOctet.take lead pre testing o = .judged rx' j) : rx'.Wf t' := by
  obtain ⟨hd, ha⟩ := (h.body hp).bounds
  obtain ⟨h1, h2, h3, h4, h5⟩ := Receiver.take_judged_frame ht
  obtain ⟨hph, he⟩ := Receiver.take_judged _ _ _ _ _ _ _ ht
  have h5' : rx'.decoded ≤ rx.decoded + 1 := h5
  exact wf_of_ended hph he (by omega) (by rw [h1]; exact ha) (by rw [h2]; exact (h.body hp).lengths)
    (by rw [h3]; exact h.window) h4

end

end Sys2Proof.Machine
end

section
namespace Sys2Proof.Machine

/-! ### The parameters, the port, the probe pass and the receiver under each event -/

/-- The part of the invariant beside the ledger and the engine. -/
structure State.SideWf (s : State) : Prop where
  params : s.params.Legal
  port : s.PortWf
  probe : s.ProbeWf
  receiver : s.receiver.Wf (s.engine == .testing)

section
variable {s t : State}

theorem SlotFrame.sideWf (hf : SlotFrame s t) (h : s.SideWf) : t.SideWf := by
  obtain ⟨_, _, _, _, _, _, _, rfl⟩ := hf
  exact ⟨h.params, h.port, h.probe, h.receiver⟩

theorem State.SideWf.noContext (h : s.SideWf) : State.SideWf { s with context := none } :=
  ⟨h.params, h.port, h.probe, h.receiver⟩

theorem sideWf_missExchange (h : s.SideWf) : s.missExchange.SideWf :=
  slotFrame_missExchange.sideWf h.noContext

theorem sideWf_abandonExchange (h : s.SideWf) : s.abandonExchange.SideWf :=
  slotFrame_abandonExchange.sideWf h.noContext

/-! #### The engine's entries -/

theorem sideWf_enterStopped (h : s.SideWf) (b : Bool) : (s.enterStopped b).SideWf :=
  ⟨h.params, h.port, ⟨Nat.zero_le _, fun _ => rfl, fun _ => rfl⟩, Receiver.wf_off⟩

theorem sideWf_enterFault (h : s.SideWf) (c : FaultCode) : (s.enterFault c).SideWf :=
  ⟨h.params, h.port, ⟨Nat.zero_le _, fun _ => rfl, fun _ => rfl⟩, Receiver.wf_off⟩

/-- The engine entered another state than STOPPED, FAULT and TESTING, with the receiver off or hunting. -/
theorem sideWf_moved (h : s.SideWf) (ht : (t.params, t.staging, t.argumentBlock, t.result,
      t.resultCursor, t.command, t.done, t.probePass, t.probeCursor) =
      (s.params, s.staging, s.argumentBlock, s.result, s.resultCursor, s.command, s.done,
        s.probePass, s.probeCursor))
    (he : t.engine ≠ .stopped ∧ t.engine ≠ .fault ∧ t.engine ≠ .testing)
    (hr : t.receiver.Wf false) : t.SideWf := by
  simp only [Prod.mk.injEq] at ht
  obtain ⟨h1, h2, h3, h4, h5, h6, h7, h8, h9⟩ := ht
  obtain ⟨hp1, hp2, hp3, hp4, hp5⟩ := h.port
  obtain ⟨hb1, hb2, _⟩ := h.probe
  obtain ⟨e1, e2, e3⟩ := he
  have hbusy : t.busy = s.busy := by rw [State.busy, State.busy, h6]
  refine ⟨by rw [h1]; exact h.params, ⟨by rw [h2]; exact hp1, by rw [h3]; exact hp2,
    by rw [h4]; exact hp3, by rw [h4, h5]; exact hp4, by rw [hbusy, h7]; exact hp5⟩,
    ⟨by rw [h9]; exact hb1, by rw [h8, h9]; exact hb2, fun e => ?_⟩, ?_⟩
  · obtain e | e | e := e
    · exact absurd e e1
    · exact absurd e e2
    · exact absurd e e3
  · rw [beq_eq_false_iff_ne.mpr e3]; exact hr

theorem sideWf_enterGap (h : s.SideWf) : s.enterGap.SideWf := by
  unfold State.enterGap
  split
  · exact sideWf_moved h rfl ⟨nofun, nofun, nofun⟩ Receiver.wf_off
  · exact sideWf_moved h rfl ⟨nofun, nofun, nofun⟩ Receiver.wf_off

theorem sideWf_endTurn (h : s.SideWf) : s.endTurn.SideWf := by
  unfold State.endTurn
  split
  · exact sideWf_enterStopped h true
  · exact sideWf_enterGap h

theorem sideWf_enterSettling (h : s.SideWf) : s.enterSettling.SideWf := by
  have hm : State.SideWf { s with engine := .settling, receiver := Receiver.off } :=
    sideWf_moved h rfl ⟨nofun, nofun, nofun⟩ Receiver.wf_off
  unfold State.enterSettling
  simp only
  split
  · exact ⟨hm.params, hm.port, hm.probe, hm.receiver⟩
  · exact sideWf_endTurn hm

/-! #### The port's part of a completion -/

theorem length_resultOctets (n : Nat) (c : ResultCode) (d : List Octet) (hn : 1 ≤ n) :
    (resultOctets n c d).length ≤ n := by
  simp only [resultOctets, List.length_cons, List.length_take, List.length_append,
    List.length_replicate]
  omega

theorem State.SideWf.finish (h : s.SideWf) (n : Nat) (c : ResultCode) (d : List Octet) (hn : 1 ≤ n)
    (hl : n ≤ 17) : (s.finish n c d).SideWf := by
  obtain ⟨h1, h2, _⟩ := h.port
  exact ⟨h.params, ⟨h1, h2, (length_resultOctets n c d hn).trans hl, Nat.zero_le _, nofun⟩, h.probe,
    h.receiver⟩

theorem sideWf_endTest (h : s.SideWf) (c : ResultCode) : (s.endTest c).SideWf :=
  (sideWf_enterStopped h false).finish 1 c [] (Nat.le_refl 1) (by decide)

/-! #### The line commands -/

theorem sideWf_startLine (h : s.SideWf) : s.startLine.SideWf := by
  have hg := sideWf_enterGap h
  have he : s.enterGap.engine = .gap ∨ s.enterGap.engine = .ready := by
    unfold State.enterGap
    split
    · exact .inr rfl
    · exact .inl rfl
  refine ⟨hg.params, hg.port, ⟨Nat.zero_le _, fun _ => rfl, fun e => ?_⟩, hg.receiver⟩
  have e' : s.enterGap.engine = .stopped ∨ s.enterGap.engine = .fault ∨
      s.enterGap.engine = .testing := e
  obtain he | he := he <;> simp [he] at e'

theorem sideWf_stopLine (h : s.SideWf) : s.stopLine.SideWf := by
  unfold State.stopLine
  split
  case h_1 | h_2 | h_3 | h_4 => exact sideWf_enterStopped h true
  all_goals exact ⟨h.params, h.port, h.probe, h.receiver⟩

theorem sideWf_lineTestEvent (h : s.SideWf) : s.lineTestEvent.SideWf := by
  have hfin : ∀ c, (s.finish 1 c []).SideWf := fun c => h.finish 1 c [] (Nat.le_refl 1) (by decide)
  unfold State.lineTestEvent
  split
  · exact h
  · split
    · split
      · exact hfin _
      · split
        · exact hfin _
        · next he =>
          split
          · exact hfin _
          · obtain ⟨hb1, hb2, hb3⟩ := h.probe
            exact ⟨h.params, h.port, ⟨hb1, hb2, fun _ => hb3 (.inl (not_not.mp he))⟩,
              Receiver.wf_startHunt⟩
    · exact h

/-! #### CTS and DCD -/

theorem sideWf_noteLineChange (h : s.SideWf) : s.noteLineChange.SideWf := by
  unfold State.noteLineChange
  split
  · exact h
  · exact ⟨h.params, h.port, h.probe, h.receiver⟩

theorem sideWf_ctsChanged (h : s.SideWf) (a : Bool) :
    (s.ctsChanged a).SideWf := by
  have ht : ({ s with cts := a }.noteLineChange).SideWf :=
    sideWf_noteLineChange ⟨h.params, h.port, h.probe, h.receiver⟩
  unfold State.ctsChanged
  simp only
  split
  · next hr =>
    have hrx := ht.receiver
    have heng : ({ s with cts := true }.noteLineChange).engine = .raising :=
      (congrArg Drive.engine (drive_noteLineChange { s with cts := true }).1).trans hr
    rw [heng] at hrx
    exact sideWf_moved ht rfl ⟨nofun, nofun, nofun⟩ hrx
  · exact ⟨ht.params, ht.port, ht.probe, ht.receiver⟩
  · exact ht

theorem sideWf_dcdChanged (h : s.SideWf) (a : Bool) : (s.dcdChanged a).SideWf := by
  have ht : ({ s with dcd := a }.noteLineChange).SideWf :=
    sideWf_noteLineChange ⟨h.params, h.port, h.probe, h.receiver⟩
  unfold State.dcdChanged
  simp only
  split
  · exact ⟨ht.params, ht.port, ht.probe, Receiver.wf_loseCarrier ht.receiver⟩
  · exact sideWf_enterSettling (sideWf_missExchange ht)
  · exact sideWf_endTurn ⟨ht.params, ht.port, ht.probe, ht.receiver⟩
  · exact ht

theorem sideWf_ctsLostEvent (h : s.SideWf) : s.ctsLostEvent.SideWf := by
  unfold State.ctsLostEvent
  split
  · exact sideWf_enterFault (sideWf_abandonExchange h) _
  · exact h

/-! #### The framer's points -/

theorem sideWf_lastCrcOctetSent (h : s.SideWf) : s.lastCrcOctetSent.SideWf := by
  unfold State.lastCrcOctetSent
  split
  · exact h
  · split
    · exact ⟨h.params, h.port, h.probe, h.receiver⟩
    · exact h

theorem sideWf_turnRound (h : s.SideWf) (c : Context) : (s.turnRound c).SideWf := by
  unfold State.turnRound
  split
  · next b _ =>
    refine sideWf_endTurn ((slotFrame_endContext _ _).sideWf ?_)
    obtain ⟨_, _, _, _, e⟩ := slotFrame_applySent (s := s) b
    rw [e]
    exact ⟨h.params, h.port, h.probe, h.receiver⟩
  all_goals exact sideWf_moved h rfl ⟨nofun, nofun, nofun⟩ Receiver.wf_startHunt

theorem sideWf_testSent (h : s.SideWf) (l : LineTest) : (s.testSent l).SideWf := by
  unfold State.testSent
  simp only
  split
  · exact sideWf_endTest ⟨h.params, h.port, h.probe, h.receiver⟩ _
  · split <;> exact ⟨h.params, h.port, h.probe, h.receiver⟩

theorem sideWf_lastPadOctetEnded (h : s.SideWf) : s.lastPadOctetEnded.SideWf := by
  unfold State.lastPadOctetEnded
  split
  · exact h
  · split
    · split
      · split
        · exact h
        · exact sideWf_turnRound h _
      · exact sideWf_testSent h _
      · exact h
    · exact h

/-! #### Timer expiries -/

theorem sideWf_gapTimerExpiry (h : s.SideWf) : s.gapTimerExpiry.SideWf := by
  unfold State.gapTimerExpiry
  split
  · next hg =>
    have hrx := h.receiver
    rw [hg.1] at hrx
    exact sideWf_moved h rfl ⟨nofun, nofun, nofun⟩ hrx
  · exact h

theorem sideWf_ctsTimerExpiry (h : s.SideWf) : s.ctsTimerExpiry.SideWf := by
  unfold State.ctsTimerExpiry
  split
  · exact sideWf_enterFault (sideWf_abandonExchange h) _
  · exact h

theorem sideWf_replyTimerExpiry (h : s.SideWf) : s.replyTimerExpiry.SideWf := by
  unfold State.replyTimerExpiry
  split
  · split
    case h_1 =>
      have hm := sideWf_missExchange h
      exact sideWf_endTurn ⟨hm.params, hm.port, hm.probe, hm.receiver⟩
    case h_2 => exact sideWf_endTest h _
    all_goals exact h
  · exact h

theorem sideWf_settleTimerExpiry (h : s.SideWf) : s.settleTimerExpiry.SideWf := by
  unfold State.settleTimerExpiry
  split
  · exact sideWf_enterFault h _
  · exact h

theorem State.EngineWf.probeTimer_isSome_iff (h : s.EngineWf) : s.probeTimer.isSome = false ↔
    s.engine = .stopped ∨ s.engine = .fault ∨ s.engine = .testing := by
  obtain ⟨_, _, _, _, _, _, _, _, _, h10, _⟩ := h
  exact h10

/-- A pass is made PENDING only where the probe timer runs, that is, in none of STOPPED, FAULT and TESTING (R38, R39). -/
theorem sideWf_probeTimerExpiry (he : s.EngineWf) (h : s.SideWf) : s.probeTimerExpiry.SideWf := by
  unfold State.probeTimerExpiry
  split
  · next hs =>
    simp only
    split
    case h_1 =>
      refine ⟨h.params, h.port, ⟨Nat.zero_le _, fun _ => rfl, fun e => ?_⟩, h.receiver⟩
      have := he.probeTimer_isSome_iff.mpr e
      rw [hs] at this; cases this
    all_goals exact ⟨h.params, h.port, h.probe, h.receiver⟩
  · exact h

/-! #### Selection -/

theorem sideWf_passes (hp : Passes s t) (he : s.engine = .ready) (h : s.SideWf) : t.SideWf := by
  obtain ⟨hb1, hb2, _⟩ := h.probe
  obtain ⟨fo, u, pp, pc, rc, rfl, _, _, hpp, _⟩ := hp
  refine ⟨h.params, h.port, ⟨?_, fun hn => ?_, ?_⟩, h.receiver⟩
  · obtain ⟨_, e⟩ | ⟨_, e⟩ | ⟨_, _, hle⟩ := hpp
    · show pc ≤ 40
      rw [e]; exact hb1
    · show pc ≤ 40
      rw [e]; exact Nat.zero_le _
    · exact hle
  · obtain ⟨e, e'⟩ | ⟨_, e⟩ | ⟨_, e, _⟩ := hpp
    · exact e'.trans (hb2 (e ▸ hn))
    · exact e
    · exact absurd e hn
  · show s.engine = .stopped ∨ s.engine = .fault ∨ s.engine = .testing → _
    rw [he]; nofun

theorem sideWf_beginExchange (x : Exchange) (he : s.engine = .ready) (h : s.SideWf) :
    (s.beginExchange x).SideWf := by
  have hrx := h.receiver
  rw [he] at hrx
  refine sideWf_moved h rfl ?_ hrx
  cases hc : s.cts <;> simp [State.beginExchange, hc]

theorem sideWf_select (h : s.SideWf) : s.select.SideWf := by
  obtain e | ⟨he, _, _, e⟩ | ⟨x, he, _, _, e⟩ := select_cases s
  · rw [e]; exact h
  · rw [e]; exact sideWf_passes choose_fits.1 he h
  · have hc : s.choose.state.engine = .ready := by
      obtain ⟨_, _, _, _, _, hc, _⟩ := choose_fits (s := s).1
      rw [hc]; exact he
    rw [e]; exact sideWf_beginExchange x hc (sideWf_passes choose_fits.1 he h)

/-! #### The receiver's events -/

/-- The receiver changed alone. -/
theorem State.SideWf.setReceiver (h : s.SideWf) {rx : Receiver}
    (hr : rx.Wf (s.engine == .testing)) : State.SideWf { s with receiver := rx } :=
  ⟨h.params, h.port, h.probe, hr⟩

theorem sideWf_octetAlignmentTaken (h : s.SideWf) (bits : List Bool) :
    (s.octetAlignmentTaken bits).SideWf := by
  unfold State.octetAlignmentTaken
  split
  · next hc => exact h.setReceiver (Receiver.wf_hunt _ _ h.receiver hc.2).1
  · exact h

theorem sideWf_alignmentGivenUp (h : s.SideWf) (o : Octet) : (s.alignmentGivenUp o).SideWf := by
  unfold State.alignmentGivenUp
  split
  · next hc => exact h.setReceiver (Receiver.wf_giveUp _ h.receiver hc.2.1)
  · exact h

theorem sideWf_leadDetected (h : s.SideWf) : s.leadDetected.SideWf := by
  unfold State.leadDetected
  split
  · next hc =>
    have hrx := Receiver.wf_enterBody h.receiver hc.2
    split
    · exact sideWf_moved h rfl ⟨nofun, nofun, nofun⟩ (hrx _)
    · exact ⟨h.params, h.port, h.probe, hrx _⟩
  · exact h

theorem sideWf_bodyOctetDecoded (h : s.SideWf) (o : Octet) : (s.bodyOctetDecoded o).SideWf := by
  unfold State.bodyOctetDecoded
  split
  · next hc =>
    split
    · next rx hm => exact h.setReceiver (Receiver.wf_take_more h.receiver hc.2 hm)
    · exact h
  · exact h

theorem sideWf_blockJudged (h : s.SideWf) (o : Octet) : (s.blockJudged o).SideWf := by
  unfold State.blockJudged
  split
  · next hb =>
    split
    · exact h
    · next rx j hj =>
      split
      · next c _ hc =>
        exact sideWf_enterSettling (((slotFrame_applyJudgement c j hc).ended _).sideWf h.noContext)
      · next l _ _ =>
        unfold State.testJudged
        simp only
        split
        · exact sideWf_endTest h _
        · exact ⟨h.params, h.port, h.probe, Receiver.wf_take_judged _ h.receiver hb.2 hj⟩
      · exact h
  · exact h

/-! ### An octet time keeps the engine and all beside it -/

/-- The invariant without the ledger. -/
def State.LineWf (s : State) : Prop := s.EngineWf ∧ s.SideWf

theorem lineLaw : TimeLaw State.LineWf fun bits => bits.length ≤ 7 where
  short {s bits} hs hb := by
    have := hs.2.receiver.bits
    rw [List.length_drop, List.length_append]
    omega
  hunt {s bits} hs hp hb := ⟨engineWf_huntLoop hs.1 hp bits,
    hs.2.setReceiver ((Receiver.wf_hunt _ _ hs.2.receiver hp).2 (by omega))⟩
  bits {s bits} hs hp hb := ⟨engineWf_octetBits hs.1 bits,
    hs.2.setReceiver (Receiver.wf_octetBits hs.2.receiver bits hb hp)⟩
  lead hs := ⟨engineWf_leadDetected hs.1, sideWf_leadDetected hs.2⟩
  given o hs := ⟨engineWf_alignmentGivenUp hs.1 o, sideWf_alignmentGivenUp hs.2 o⟩
  body o hs := ⟨engineWf_bodyOctetDecoded hs.1 o, sideWf_bodyOctetDecoded hs.2 o⟩
  judged o hs := ⟨engineWf_blockJudged hs.1 o, sideWf_blockJudged hs.2 o⟩
  select hs := ⟨engineWf_select hs.1, sideWf_select hs.2⟩
  count hs := ⟨engineWf_countTimers hs.1, hs.2.params, hs.2.port, hs.2.probe, hs.2.receiver⟩
  crc hs := ⟨engineWf_lastCrcOctetSent hs.1, sideWf_lastCrcOctetSent hs.2⟩
  advance hs hn := ⟨engineWf_advanceFramer hs.1 hn, hs.2.params, hs.2.port, hs.2.probe, hs.2.receiver⟩
  pad hs := ⟨engineWf_lastPadOctetEnded hs.1, sideWf_lastPadOctetEnded hs.2⟩
  cut hs := ⟨engineWf_ctsLostEvent hs.1, sideWf_ctsLostEvent hs.2⟩
  cts hs := ⟨engineWf_ctsTimerExpiry hs.1, sideWf_ctsTimerExpiry hs.2⟩
  reply hs := ⟨engineWf_replyTimerExpiry hs.1, sideWf_replyTimerExpiry hs.2⟩
  settle hs := ⟨engineWf_settleTimerExpiry hs.1, sideWf_settleTimerExpiry hs.2⟩
  gap hs := ⟨engineWf_gapTimerExpiry hs.1, sideWf_gapTimerExpiry hs.2⟩
  probe hs := ⟨engineWf_probeTimerExpiry hs.1, sideWf_probeTimerExpiry hs.1 hs.2⟩

end

end Sys2Proof.Machine
end

section
namespace Sys2Proof.Machine

/-! ### The parameters under a write (R117, R154, R159 to R164) -/

theorem Params.legal_writeFormat {p q : Params} {i v : Octet} (h : p.Legal)
    (hq : p.writeFormat i v = some q) : q.Legal := by
  obtain ⟨h1, h2, h3, h4, h5, h6, h7, h8, h9, h10, h11⟩ := h
  unfold Params.writeFormat at hq
  split at hq
  · split at hq <;> cases hq
    next hv => exact ⟨hv, h2, h3, h4, h5, h6, h7, h8, h9, h10, h11⟩
  split at hq
  · split at hq <;> cases hq
    next hv => exact ⟨hv, h2, h3, h4, h5, h6, h7, h8, h9, h10, h11⟩
  split at hq
  · split at hq <;> cases hq
    next hv =>
    exact ⟨h1, by simpa [inRange] using hv, h3, h4, h5, h6, h7, h8, h9, h10, h11⟩
  split at hq
  · split at hq <;> cases hq
    next hv =>
    exact ⟨h1, h2, by simpa [inRange] using hv, h4, h5, h6, h7, h8, h9, h10, h11⟩
  split at hq
  · split at hq
    · cases hq; exact ⟨h1, h2, h3, h4, h5, h6, h7, h8, h9, h10, h11⟩
    · split at hq <;> cases hq
      exact ⟨h1, h2, h3, h4, h5, h6, h7, h8, h9, h10, h11⟩
  split at hq
  · cases hq; exact ⟨h1, h2, h3, h4, h5, h6, h7, h8, h9, h10, h11⟩
  split at hq
  · split at hq <;> cases hq
    next hv => exact ⟨h1, h2, h3, hv, h5, h6, h7, h8, h9, h10, h11⟩
  · cases hq

theorem Params.legal_writeTimed {p q : Params} {i v : Octet} (h : p.Legal)
    (hq : p.writeTimed i v = some q) : q.Legal := by
  obtain ⟨h1, h2, h3, h4, h5, h6, h7, h8, ⟨h9, h9', h9''⟩, h10, h11⟩ := h
  have h9s : 1 ≤ p.suspectThreshold.toNat ∧ p.suspectThreshold.toNat < p.lostThreshold.toNat ∧
    p.lostThreshold.toNat ≤ 15 := ⟨h9, h9', h9''⟩
  unfold Params.writeTimed at hq
  simp only [inRange, Bool.and_eq_true, decide_eq_true_eq] at hq
  split at hq
  · split at hq <;> cases hq
    next hv => exact ⟨h1, h2, h3, h4, hv.1, h6, h7, h8, h9s, h10, h11⟩
  split at hq
  · split at hq <;> cases hq
    next hv => exact ⟨h1, h2, h3, h4, h5, hv.1, h7, h8, h9s, h10, h11⟩
  split at hq
  · split at hq <;> cases hq
    next hv => exact ⟨h1, h2, h3, h4, h5, h6, hv.2, h8, h9s, h10, h11⟩
  split at hq
  · split at hq <;> cases hq
    next hv => exact ⟨h1, h2, h3, h4, h5, h6, h7, hv.1, h9s, h10, h11⟩
  split at hq
  · split at hq <;> cases hq
    next hv => exact ⟨h1, h2, h3, h4, h5, h6, h7, h8, ⟨hv.1.1, hv.2, h9''⟩, h10, h11⟩
  split at hq
  · split at hq <;> cases hq
    next hv => exact ⟨h1, h2, h3, h4, h5, h6, h7, h8, ⟨h9, hv.2, hv.1.2⟩, h10, h11⟩
  split at hq
  · split at hq <;> cases hq
    next hv => exact ⟨h1, h2, h3, h4, h5, h6, h7, h8, h9s, hv, h11⟩
  split at hq
  · split at hq <;> cases hq
    next hv => exact ⟨h1, h2, h3, h4, h5, h6, h7, h8, h9s, h10, hv⟩
  · cases hq

/-- A write taken leaves the parameters legal (R157). -/
theorem Params.legal_write {p q : Params} {e : EngineState} {i v : Octet} (h : p.Legal)
    (hq : p.write e i v = some q) : q.Legal := by
  unfold Params.write at hq
  split at hq
  · split at hq
    · exact Params.legal_writeFormat h hq
    · cases hq
  · exact Params.legal_writeTimed h hq

section
variable {s t : State}

/-! ### The engine, the parameters and the port under every command -/

theorem row_length_bounds (n : CommandName) : 1 ≤ n.row.length ∧ n.row.length ≤ 17 := by
  cases n <;> decide

theorem State.SideWf.setPort (h : s.SideWf) {u : State} (hl : u.lineSide = s.lineSide)
    (hp : u.PortWf) : u.SideWf := by
  have h1 : u.params = s.params := congrArg LineSide.params hl
  have h2 : u.receiver = s.receiver := congrArg LineSide.receiver hl
  have h3 : u.engine = s.engine := congrArg (fun x => x.drive.engine) hl
  have h4 : u.probePass = s.probePass := congrArg LineSide.probePass hl
  have h5 : u.probeCursor = s.probeCursor := congrArg LineSide.probeCursor hl
  exact ⟨by rw [h1]; exact h.params, hp, by rw [State.ProbeWf, h3, h4, h5]; exact h.probe,
    by rw [h2, h3]; exact h.receiver⟩

/-- The completion of a command that leaves the line as it is, while no test runs. -/
theorem SameLine.finish (hs : SameLine s t) (h : s.LineWf) (he : s.engine ≠ .testing)
    (n : CommandName) (c : ResultCode) (d : List Octet) : (t.finish n.row.length c d).LineWf := by
  obtain ⟨hn1, hn2⟩ := row_length_bounds n
  obtain ⟨hp1, hp2, _⟩ := h.2.port
  have ha : t.argumentBlock = s.argumentBlock := congrArg LineSide.argumentBlock hs.line
  refine ⟨h.1.congr (congrArg LineSide.drive hs.line) fun e => absurd e he, h.2.setPort hs.line
    ⟨?_, ?_, (length_resultOctets _ c d hn1).trans hn2, Nat.zero_le _, nofun⟩⟩
  · show t.staging.length ≤ 128
    obtain e | e := hs.staging <;> rw [e]
    · exact hp1
    · exact Nat.zero_le _
  · show t.argumentBlock.length ≤ 8
    rw [ha]; exact hp2

/-- While a test runs LINE TEST is in progress (R145). -/
theorem State.EngineWf.not_testing (h : s.EngineWf) (hc : ∀ c ∈ s.command, c.code ≠ 0x53) :
    s.engine ≠ .testing := by
  obtain ⟨_, _, _, _, _, _, _, _, _, _, _, _, _, _, h15, _⟩ := h
  intro he
  obtain ⟨c, hm, e⟩ := h15 he
  exact hc c hm e

theorem lineWf_complete (n : CommandName) (hn : n.row.code ≠ 0x53)
    (body : List Octet → State → Completion)
    (hb : ∀ args c d, s.engine ≠ .testing → ((body args s).state.finish n.row.length c d).LineWf)
    (h : s.LineWf) : (s.complete n body).LineWf := by
  have hne : ∀ c, s.command = some c → c.code = n.row.code → s.engine ≠ .testing :=
    fun c hc hcode => h.1.not_testing fun c' hc' => by
      obtain rfl : c = c' := by simpa [hc] using hc'
      rw [hcode]; exact hn
  obtain e | ⟨c, hc, hcode, e⟩ | ⟨args, hi, _, e⟩ := s.complete_cases n body
  · rw [e]; exact h
  · rw [e]; exact (SameLine.refl s).finish h (hne c hc hcode) n _ _
  · rw [e]; exact hb args _ _ (hne _ hi rfl)

/-- A command that leaves the line as it is. -/
theorem lineWf_completeSame (n : CommandName) (hn : n.row.code ≠ 0x53)
    (body : List Octet → State → Completion) (hb : ∀ args, SameLine s (body args s).state)
    (h : s.LineWf) : (s.complete n body).LineWf :=
  lineWf_complete n hn body (fun args c d he => (hb args).finish h he n c d) h

theorem lineWf_completeModify (f : Octet) (rule : Slot → Octet → State → Completion)
    (hr : ∀ i v, SameLine s (rule i v s).state) (h : s.LineWf) :
    (s.completeModify f rule).LineWf := by
  unfold State.completeModify
  split
  · split
    · exact lineWf_completeSame _ (by decide) _ (fun args => sameLine_modifyStation rule args hr) h
    · exact h
  · exact h

theorem lineWf_finish (h : s.LineWf) (he : s.engine ≠ .testing) (n : CommandName) (c : ResultCode)
    (d : List Octet) : (s.finish n.row.length c d).LineWf :=
  (SameLine.refl s).finish h he n c d

/-- TABLE RESET, which STOPPED alone takes (R26). -/
theorem lineWf_emptyTable (h : s.LineWf) : s.emptyTable.LineWf := by
  obtain ⟨_, hp⟩ := h.2.port
  exact ⟨h.1.noFollowOn.of_drive rfl rfl, h.2.params, ⟨Nat.zero_le _, hp⟩,
    ⟨Nat.zero_le _, fun _ => rfl, fun _ => rfl⟩, h.2.receiver⟩

theorem lineWf_tableReset (args : List Octet) (c : ResultCode) (d : List Octet) (h : s.LineWf)
    (he : s.engine ≠ .testing) :
    ((tableReset args s).state.finish CommandName.tableReset.row.length c d).LineWf := by
  unfold tableReset
  split
  · exact lineWf_finish (lineWf_emptyTable h) he .tableReset c d
  · exact lineWf_finish h he .tableReset c d

theorem lineWf_startLine (args : List Octet) (c : ResultCode) (d : List Octet) (h : s.LineWf)
    (he : s.engine ≠ .testing) :
    ((startLine args s).state.finish CommandName.startLine.row.length c d).LineWf := by
  have hstart : s.engine = .stopped ∨ s.engine = .fault →
      (s.startLine.finish CommandName.startLine.row.length c d).LineWf := by
    intro hs
    refine lineWf_finish ⟨engineWf_startLine (h.1.atRest hs), sideWf_startLine h.2⟩ ?_ .startLine c d
    show s.enterGap.engine ≠ .testing
    unfold State.enterGap
    split <;> nofun
  unfold startLine
  split
  case h_1 e => exact hstart (.inl e)
  case h_2 e => exact hstart (.inr e)
  all_goals exact lineWf_finish h he .startLine c d

theorem lineWf_stopLine (args : List Octet) (c : ResultCode) (d : List Octet) (h : s.LineWf)
    (he : s.engine ≠ .testing) :
    ((stopLine args s).state.finish CommandName.stopLine.row.length c d).LineWf := by
  refine lineWf_finish ⟨engineWf_stopLine h.1, sideWf_stopLine h.2⟩ ?_ .stopLine c d
  unfold State.stopLine
  split
  case h_1 | h_2 | h_3 | h_4 => nofun
  all_goals exact he

theorem lineWf_abortLine (args : List Octet) (c : ResultCode) (d : List Octet) (h : s.LineWf) :
    ((abortLine args s).state.finish CommandName.abortLine.row.length c d).LineWf :=
  lineWf_finish ⟨engineWf_enterStopped context_abandonExchange true,
    sideWf_enterStopped (sideWf_abandonExchange h.2) true⟩ nofun .abortLine c d

/-! ### The port's own accesses -/

theorem lineWf_portWrite (h : s.LineWf) (ht : t.LineWf) : (s.portWrite t).LineWf := by
  unfold State.portWrite
  split
  · exact h
  · exact ht

/-- The data bus is no part of the invariant. -/
theorem State.LineWf.dataOut (h : s.LineWf) (o : Octet) : State.LineWf { s with dataOut := o } :=
  ⟨h.1.of_drive rfl rfl, h.2.params, h.2.port, h.2.probe, h.2.receiver⟩

theorem lineWf_portReadStep (o : Octet) (h : s.LineWf) (ht : t.LineWf) :
    (s.portReadStep o t).LineWf := by
  unfold State.portReadStep
  split
  · exact h.dataOut 0
  · exact ht.dataOut o

/-- A change that leaves the drive, the command and the rest of the line's side. -/
theorem State.LineWf.setPort (h : s.LineWf) {u : State} (hl : u.lineSide = s.lineSide)
    (hc : u.command = s.command) (hp : u.PortWf) : u.LineWf :=
  ⟨h.1.of_drive (congrArg LineSide.drive hl) hc, h.2.setPort hl hp⟩

theorem lineWf_acceptance (code : Octet) (h : s.LineWf) :
    State.LineWf (if s.busy then { s with refused := true } else s.accept code) := by
  obtain ⟨hp1, hp2, hp3, hp4, hp5⟩ := h.2.port
  split
  · exact h.setPort rfl rfl ⟨hp1, hp2, hp3, hp4, hp5⟩
  · next hb =>
    have hne : s.engine ≠ .testing := h.1.not_testing fun c hc => by
      have : s.busy = true := Option.isSome_iff_exists.mpr ⟨c, hc⟩
      exact absurd this hb
    exact ⟨h.1.congr rfl fun e => absurd e hne, h.2.params,
      ⟨hp1, Nat.zero_le _, Nat.zero_le _, Nat.zero_le _, fun _ => rfl⟩, h.2.probe, h.2.receiver⟩

theorem lineWf_argumentWrite (o : Octet) (h : s.LineWf) :
    State.LineWf (if s.argumentBlock.length < Config.argumentCapacity then
      { s with argumentBlock := s.argumentBlock ++ [o] }
    else { s with argumentOverflow := true }) := by
  obtain ⟨hp1, hp2, hp3, hp4, hp5⟩ := h.2.port
  split
  · next hl =>
    refine ⟨h.1.of_drive rfl rfl, h.2.params, ⟨hp1, ?_, hp3, hp4, hp5⟩, h.2.probe, h.2.receiver⟩
    have : s.argumentBlock.length < 8 := hl
    show (s.argumentBlock ++ [o]).length ≤ 8
    rw [List.length_append, List.length_singleton]
    omega
  · exact h.setPort rfl rfl ⟨hp1, hp2, hp3, hp4, hp5⟩

theorem lineWf_stagingTextWrite (o : Octet) (h : s.LineWf) :
    State.LineWf (if s.staging.length < Config.stagingCapacity then
      { s with staging := s.staging ++ [o] }
    else { s with stagingOverflow := true }) := by
  obtain ⟨hp1, hp2, hp3, hp4, hp5⟩ := h.2.port
  split
  · next hl =>
    refine h.setPort rfl rfl ⟨?_, hp2, hp3, hp4, hp5⟩
    have : s.staging.length < 128 := hl
    show (s.staging ++ [o]).length ≤ 128
    rw [List.length_append, List.length_singleton]
    omega
  · exact h.setPort rfl rfl ⟨hp1, hp2, hp3, hp4, hp5⟩

theorem lineWf_resultRead (h : s.LineWf) :
    State.LineWf (if s.resultCursor < s.result.length then
      { s with resultCursor := s.resultCursor + 1 } else s) := by
  obtain ⟨hp1, hp2, hp3, _, hp5⟩ := h.2.port
  split
  · next hl => exact h.setPort rfl rfl ⟨hp1, hp2, hp3, hl, hp5⟩
  · exact h

theorem lineWf_unknownCommand (h : s.LineWf) : State.LineWf (match s.command with
    | some c => if isCommandCode c.code then s else s.finish 1 .unknownCommand []
    | none => s) := by
  split
  · next c hc =>
    split
    · exact h
    · next hu =>
      refine lineWf_finish h (h.1.not_testing fun c' hc' e => hu ?_) .lineTest _ _
      obtain rfl : c = c' := by simpa [hc] using hc'
      rw [e]; decide
  · exact h

theorem lineWf_parameterDataWrite (o : Octet) (h : s.LineWf) :
    State.LineWf (match s.params.write s.engine s.paramIndex o with
      | some p => { s with params := p, paramRefused := false, paramIndex := s.paramIndex + 1 }
      | none => { s with paramRefused := true, paramIndex := s.paramIndex + 1 }) := by
  split
  · next p hp =>
    exact ⟨h.1.of_drive rfl rfl, Params.legal_write h.2.params hp, h.2.port, h.2.probe, h.2.receiver⟩
  · exact h.setPort rfl rfl h.2.port

theorem lineWf_reset : State.reset.LineWf :=
  ⟨engineWf_of_fits (show State.reset.AtRest from
    ⟨⟨rfl, rfl, rfl, rfl, rfl, rfl, rfl⟩, rfl, rfl, rfl, rfl, rfl⟩),
    by decide, by decide, by decide, Receiver.wf_off⟩

theorem lineWf_heldInReset : s.heldInReset.LineWf :=
  ⟨(lineWf_reset.1.dcd s.dcd (.inr ⟨nofun, nofun⟩)).of_drive rfl rfl, lineWf_reset.2.params,
    lineWf_reset.2.port, lineWf_reset.2.probe, lineWf_reset.2.receiver⟩

/-- Every command keeps the engine, the parameters, the probe pass, the receiver and the port. -/
theorem lineWf_exec (c : Instr) (he : exec c s = .next t) (h : s.LineWf) : t.LineWf := by
  have hsame : ∀ (n : CommandName) (body : List Octet → State → Completion),
      n.row.code ≠ 0x53 → (∀ args, SameLine s (body args s).state) → (s.complete n body).LineWf :=
    fun n body hn hb => lineWf_completeSame n hn body hb h
  cases c <;> cases he
  case acceptance => exact lineWf_portWrite h (lineWf_acceptance _ h)
  case argumentWrite => exact lineWf_portWrite h (lineWf_argumentWrite _ h)
  case resultRead => exact lineWf_portReadStep _ h (lineWf_resultRead h)
  case unknownCommand => exact lineWf_unknownCommand h
  case admitStation => exact hsame _ _ (by decide) sameLine_admitStation
  case findStation => exact hsame _ _ (by decide) sameLine_findStation
  case readStation =>
    exact hsame _ _ (by decide) fun _ => sameLine_withSlot _ _ fun _ => .refl s
  case modifyStationAddress => exact lineWf_completeModify _ _ sameLine_modifyAddress h
  case modifyStationGroup => exact lineWf_completeModify _ _ sameLine_modifyGroup h
  case modifyStationQuietLimit => exact lineWf_completeModify _ _ (fun _ _ => ⟨rfl, .inl rfl⟩) h
  case modifyStationClearCounters => exact lineWf_completeModify _ _ (fun _ _ => ⟨rfl, .inl rfl⟩) h
  case holdStation => exact hsame _ _ (by decide) sameLine_holdStation
  case releaseStation => exact hsame _ _ (by decide) sameLine_releaseStation
  case retireStation => exact hsame _ _ (by decide) sameLine_retireStation
  case syncStation => exact hsame _ _ (by decide) sameLine_syncStation
  case tableReset =>
    exact lineWf_complete _ (by decide) _ (fun args c d => lineWf_tableReset args c d h) h
  case ringInsert => exact hsame _ _ (by decide) sameLine_ringInsert
  case ringRemove => exact hsame _ _ (by decide) sameLine_ringRemove
  case ringRead => exact hsame _ _ (by decide) sameLine_ringRead
  case ringStatus => exact hsame _ _ (by decide) fun _ => .refl s
  case pollNow => exact hsame _ _ (by decide) sameLine_pollNow
  case queueText => exact hsame _ _ (by decide) sameLine_queueText
  case queueGroupText => exact hsame _ _ (by decide) sameLine_queueGroupText
  case cancelText => exact hsame _ _ (by decide) sameLine_cancelText
  case clearStaging => exact hsame _ _ (by decide) fun _ => ⟨rfl, .inr rfl⟩
  case readInbound => exact hsame _ _ (by decide) sameLine_readInbound
  case releaseInbound => exact hsame _ _ (by decide) sameLine_releaseInbound
  case bufferStatus => exact hsame _ _ (by decide) fun _ => .refl s
  case nextAttention => exact hsame _ _ (by decide) sameLine_nextAttention
  case startLine =>
    exact lineWf_complete _ (by decide) _ (fun args c d => lineWf_startLine args c d h) h
  case stopLine =>
    exact lineWf_complete _ (by decide) _ (fun args c d => lineWf_stopLine args c d h) h
  case abortLine =>
    exact lineWf_complete _ (by decide) _ (fun args c d _ => lineWf_abortLine args c d h) h
  case lineTest => exact ⟨engineWf_lineTestEvent h.1, sideWf_lineTestEvent h.2⟩
  case stagingTextWrite => exact lineWf_portWrite h (lineWf_stagingTextWrite _ h)
  case inboundTextRead => exact lineWf_portReadStep _ h (h.setPort rfl rfl h.2.port)
  case causeClearWrite => exact lineWf_portWrite h (h.setPort rfl rfl h.2.port)
  case maskWrite => exact lineWf_portWrite h (h.setPort rfl rfl h.2.port)
  case parameterIndexWrite => exact lineWf_portWrite h (h.setPort rfl rfl h.2.port)
  case parameterDataRead => exact lineWf_portReadStep _ h (h.setPort rfl rfl h.2.port)
  case parameterDataWrite => exact lineWf_portWrite h (lineWf_parameterDataWrite _ h)
  case lineStatusRead => exact lineWf_portReadStep _ h (h.setPort rfl rfl h.2.port)
  case lineStatusPortWrite => exact h
  case masterReset => exact lineWf_heldInReset
  case rstReleased => exact h.setPort rfl rfl h.2.port
  case ctsChange a =>
    split
    · exact h
    · exact ⟨engineWf_ctsChanged h.1 a, sideWf_ctsChanged h.2 a⟩
  case dcdChange a =>
    split
    · exact h
    · exact ⟨engineWf_dcdChanged h.1 a, sideWf_dcdChanged h.2 a⟩
  case ctsLost => exact lineLaw.cut h
  case selection => exact lineLaw.select h
  case lastCrcOctetSent => exact lineLaw.crc h
  case lastPadOctetEnded => exact lineLaw.pad h
  case leadDetected => exact lineLaw.lead h
  case blockJudged o => exact lineLaw.judged o h
  case gapTimerExpiry => exact lineLaw.gap h
  case ctsTimerExpiry => exact lineLaw.cts h
  case replyTimerExpiry => exact lineLaw.reply h
  case settleTimerExpiry => exact lineLaw.settle h
  case probeTimerExpiry => exact lineLaw.probe h
  case octetAlignmentTaken b =>
    exact ⟨engineWf_octetAlignmentTaken h.1 b, sideWf_octetAlignmentTaken h.2 b⟩
  case alignmentGivenUp o => exact lineLaw.given o h
  case bodyOctetDecoded o => exact lineLaw.body o h

/-! ### The whole invariant -/

theorem wf_iff : s.Wf ↔ s.LedgerWf ∧ s.LineWf := by
  constructor
  · rintro ⟨hp, hf, hret, hrec, hring, hurg, hpr, hatt, hin, htx, heng, hrx, had, hport⟩
    exact ⟨⟨hf, hret, hrec, hring, hurg, hatt, hin, htx, had⟩, heng, hp, hport, hpr, hrx⟩
  · rintro ⟨⟨hf, hret, hrec, hring, hurg, hatt, hin, htx, had⟩, heng, hp, hport, hpr, hrx⟩
    exact ⟨hp, hf, hret, hrec, hring, hurg, hpr, hatt, hin, htx, heng, hrx, had, hport⟩

/-- An event that is one act on the ledger and keeps the line keeps the invariant. -/
theorem State.Wf.of_reaches (h : s.Wf) (hr : Reaches s t) (hl : t.LineWf) : t.Wf :=
  wf_iff.mpr ⟨hr.ledgerWf h.base, hl⟩

theorem State.Wf.of_ledger (h : s.Wf) (hr : t.ledger = s.ledger) (hl : t.LineWf) : t.Wf :=
  h.of_reaches (.of_ledger hr) hl

theorem State.Wf.line (h : s.Wf) : s.LineWf := (wf_iff.mp h).2

/-- The acts of an octet time keep the invariant, each by its part of the ledger and its part of the line. -/
theorem wfLaw : TimeLaw State.Wf fun bits => bits.length ≤ 7 where
  short hs hb := lineLaw.short hs.line hb
  hunt hs hp hb := hs.of_ledger rfl (lineLaw.hunt hs.line hp hb)
  bits hs hp hb := hs.of_ledger rfl (lineLaw.bits hs.line hp hb)
  lead hs := hs.of_ledger (ledger_leadDetected _) (lineLaw.lead hs.line)
  given o hs := hs.of_ledger (ledger_alignmentGivenUp _ o) (lineLaw.given o hs.line)
  body o hs := hs.of_ledger (ledger_bodyOctetDecoded _ o) (lineLaw.body o hs.line)
  judged o hs := hs.of_reaches (reaches_blockJudged o) (lineLaw.judged o hs.line)
  select hs := hs.of_reaches reaches_select (lineLaw.select hs.line)
  count hs := hs.of_ledger rfl (lineLaw.count hs.line)
  crc hs := hs.of_reaches reaches_lastCrcOctetSent (lineLaw.crc hs.line)
  advance hs hn := hs.of_ledger rfl (lineLaw.advance hs.line hn)
  pad hs := hs.of_reaches reaches_lastPadOctetEnded (lineLaw.pad hs.line)
  cut hs := hs.of_reaches reaches_ctsLostEvent (lineLaw.cut hs.line)
  cts hs := hs.of_reaches reaches_ctsTimerExpiry (lineLaw.cts hs.line)
  reply hs := hs.of_reaches reaches_replyTimerExpiry (lineLaw.reply hs.line)
  settle hs := hs.of_ledger (ledger_settleTimerExpiry _) (lineLaw.settle hs.line)
  gap hs := hs.of_ledger (ledger_gapTimerExpiry _) (lineLaw.gap hs.line)
  probe hs := hs.of_ledger (ledger_probeTimerExpiry _) (lineLaw.probe hs.line)

theorem wf_exec (c : Instr) (he : exec c s = .next t) (h : s.Wf) : t.Wf :=
  wf_iff.mpr ⟨ledgerWf_exec c he h.base, lineWf_exec c he h.line⟩

theorem wf_step (he : step s = .next t) (h : s.Wf) : t.Wf := by
  unfold step at he
  split at he
  · exact wf_exec _ he (h.of_ledger rfl (h.line.setPort rfl rfl h.line.2.port))
  · cases he; exact wfLaw.octetTime h

end

/-- Settles O12: the ledger's part by the acts that an event may be, the line's part event by event. -/
theorem everyStepKeepsTheInvariant : Obligations.EveryStepKeepsTheInvariant :=
  fun _ _ h he => wf_step he h

end Sys2Proof.Machine
end

section
namespace Sys2Proof.Machine

/-! ### The three ways in which a record becomes FREE (R2) -/

section
variable {s t : State} {i : Slot}

/-- No act on the ledger makes a record FREE. -/
theorem Reaches.not_freed (h : Reaches s t) (hi : (t.record i).state = .free) :
    (s.record i).state = .free := by
  obtain ⟨r, u, hr, hu, ht⟩ := h
  obtain ⟨j, hj⟩ := hu.actsOn
  rw [State.record_congr t u (congrArg Ledger.records ht)] at hi
  rw [← State.record_congr r s (congrArg Ledger.records hr.1)]
  by_cases e : i = j
  · subst e; exact hj.free hi
  · rw [← hj.others i e]; exact hi

/-- A record made FREE by a completion was made so by the command's own rule. -/
theorem freed_of_complete (n : CommandName) (body : List Octet → State → Completion)
    (hs : (s.record i).state ≠ .free) (ht : ((s.complete n body).record i).state = .free)
    (hb : ∀ args, (((body args s).state).record i).state = .free →
      (body args s).state.record i = Record.free) :
    (s.complete n body).record i = Record.free := by
  obtain e | ⟨_, _, _, e⟩ | ⟨args, _, _, e⟩ := s.complete_cases n body
  · rw [e] at ht; exact absurd ht hs
  · rw [e] at ht; exact absurd ht hs
  · rw [e] at ht ⊢; exact hb args ht

theorem freed_of_nextAttention (args : List Octet) (hs : (s.record i).state ≠ .free)
    (ht : ((nextAttention args s).state.record i).state = .free) :
    (nextAttention args s).state.record i = Record.free := by
  unfold nextAttention at ht ⊢
  split at ht
  · exact absurd ht hs
  · next j rest _ =>
    change ((s.taken j rest).record i).state = .free at ht
    show (s.taken j rest).record i = Record.free
    by_cases e : i = j
    · subst e
      rw [record_taken_same] at ht ⊢
      obtain ⟨_, hk⟩ | ⟨_, hk⟩ := takenRecord_cases (s.record i)
      · exact hk
      · rw [hk] at ht; exact absurd ht hs
    · rw [record_taken_ne e] at ht
      exact absurd ht hs

theorem freed_of_tableReset (args : List Octet) (hs : (s.record i).state ≠ .free)
    (ht : ((tableReset args s).state.record i).state = .free) :
    (tableReset args s).state.record i = Record.free := by
  unfold tableReset at ht ⊢
  split at ht
  · next he => rw [if_pos he]; exact record_emptyTable i
  · exact absurd ht hs

end

/-- Settles O13: every command but the three is an act on the ledger, and no act makes a record FREE. -/
theorem recordsBecomeFreeInThreeWays : Obligations.RecordsBecomeFreeInThreeWays := by
  unfold Obligations.RecordsBecomeFreeInThreeWays
  intro c s t i he hs ht
  by_cases h1 : c = .nextAttention
  · subst h1; cases he
    exact ⟨.inl rfl, freed_of_complete _ _ hs ht fun args => freed_of_nextAttention args hs⟩
  by_cases h2 : c = .tableReset
  · subst h2; cases he
    exact ⟨.inr (.inl rfl), freed_of_complete _ _ hs ht fun args => freed_of_tableReset args hs⟩
  by_cases h3 : c = .masterReset
  · subst h3; cases he
    exact ⟨.inr (.inr rfl), record_reset i⟩
  · exact absurd ((reaches_exec c he h1 h2 h3).not_freed ht) hs

end Sys2Proof.Machine
end

section
namespace Sys2Proof.Machine

/-! ### Completions in the terms of the statements (R11, R171 to R173) -/

section
variable {s : State} {n : CommandName} {args : List Octet} {body : List Octet → State → Completion}

theorem resultOctets_nil (len : Nat) (c : ResultCode) :
    resultOctets len c [] = c.octet :: List.replicate (len - 1) 0 := by
  simp [resultOctets]

/-- A command stopped by one of its own checks. -/
theorem complete_of_refused {c : ResultCode} (h : s.inHand n.row.code args)
    (hn : args.length = n.row.args) (hb : body args s = refuse s c) :
    s.complete n body = s.answered (c.octet :: List.replicate (n.row.length - 1) 0) := by
  rw [s.complete_of_inHand n args body h hn, hb, ← resultOctets_nil]
  rfl

/-- A command carried out, whose data fill its result block. -/
theorem complete_of_answered {u : State} {c : ResultCode} {d : List Octet}
    (h : s.inHand n.row.code args) (hn : args.length = n.row.args)
    (hb : body args s = answer u c d) (hd : d.length = n.row.length - 1) :
    s.complete n body = u.answered (c.octet :: d) := by
  have : resultOctets n.row.length c d = c.octet :: d := by
    rw [resultOctets, ← hd, List.take_left]
  rw [s.complete_of_inHand n args body h hn, hb, ← this]
  rfl

/-! ### Codes and arguments before any check (R171) -/

theorem isCommandCode_row (n : CommandName) : isCommandCode n.row.code = true := by
  cases n <;> decide

/-- The event `i` answers the command `n`, given with wrong arguments, with ARGUMENTS. -/
def AnswersArguments (i : Instr) (n : CommandName) : Prop :=
  ∀ (s : State) (k : Command), s.command = some k → s.lineTest = none → k.code = n.row.code →
    k.overflow = true ∨ k.args.length ≠ n.row.args →
    exec i s = .next (s.answered (resultOctets n.row.length .arguments []))

theorem answersArguments_complete {i : Instr} (body : List Octet → State → Completion)
    (h : ∀ s, exec i s = .next (s.complete n body)) : AnswersArguments i n := by
  intro s k hk _ hc hb
  rw [h, s.complete_of_badArguments n k body hk hc hb]

/-- The rows of MODIFY STATION all answer it before its field is read (log 8). -/
theorem answersArguments_completeModify {i : Instr} (f : Octet)
    (rule : Slot → Octet → State → Completion)
    (h : ∀ s, exec i s = .next (s.completeModify f rule)) : AnswersArguments i .modifyStation := by
  intro s k hk _ hc hb
  have hf : k.selectsField f = true := by
    obtain hb | hb := hb
    · simp [Command.selectsField, hb]
    · have : k.args.length ≠ 3 := hb
      simp [Command.selectsField, this]
  rw [h, ← s.complete_of_badArguments .modifyStation k (modifyStation rule) hk hc hb]
  simp only [State.completeModify, hk, hf, if_true]

theorem answersArguments_lineTest : AnswersArguments .lineTest .lineTest := by
  intro s k hk hl hc hb
  show Host.Outcome.next s.lineTestEvent = _
  simp only [State.lineTestEvent, hk]
  rw [if_pos ⟨hc, hl⟩, if_pos hb]
  rfl

/-- Each row of the command table is a command with its code, its arguments and its result length, which it answers. -/
theorem commandRows_answer : ∀ row ∈ commandRows, ∃ n : CommandName,
    row.2 = (n.row.code, n.row.args, n.row.length) ∧ AnswersArguments row.1 n := by
  intro row h
  simp only [commandRows, List.mem_cons, List.not_mem_nil, or_false] at h
  obtain rfl | rfl | rfl | rfl | rfl | rfl | rfl | rfl | rfl | rfl | rfl | rfl | rfl | rfl | rfl |
    rfl | rfl | rfl | rfl | rfl | rfl | rfl | rfl | rfl | rfl | rfl | rfl | rfl | rfl := h
  · exact ⟨.admitStation, rfl, answersArguments_complete _ fun _ => rfl⟩
  · exact ⟨.findStation, rfl, answersArguments_complete _ fun _ => rfl⟩
  · exact ⟨.readStation, rfl, answersArguments_complete _ fun _ => rfl⟩
  · exact ⟨.modifyStation, rfl, answersArguments_completeModify _ _ fun _ => rfl⟩
  · exact ⟨.modifyStation, rfl, answersArguments_completeModify _ _ fun _ => rfl⟩
  · exact ⟨.modifyStation, rfl, answersArguments_completeModify _ _ fun _ => rfl⟩
  · exact ⟨.modifyStation, rfl, answersArguments_completeModify _ _ fun _ => rfl⟩
  · exact ⟨.holdStation, rfl, answersArguments_complete _ fun _ => rfl⟩
  · exact ⟨.releaseStation, rfl, answersArguments_complete _ fun _ => rfl⟩
  · exact ⟨.retireStation, rfl, answersArguments_complete _ fun _ => rfl⟩
  · exact ⟨.syncStation, rfl, answersArguments_complete _ fun _ => rfl⟩
  · exact ⟨.tableReset, rfl, answersArguments_complete _ fun _ => rfl⟩
  · exact ⟨.ringInsert, rfl, answersArguments_complete _ fun _ => rfl⟩
  · exact ⟨.ringRemove, rfl, answersArguments_complete _ fun _ => rfl⟩
  · exact ⟨.ringRead, rfl, answersArguments_complete _ fun _ => rfl⟩
  · exact ⟨.ringStatus, rfl, answersArguments_complete _ fun _ => rfl⟩
  · exact ⟨.pollNow, rfl, answersArguments_complete _ fun _ => rfl⟩
  · exact ⟨.queueText, rfl, answersArguments_complete _ fun _ => rfl⟩
  · exact ⟨.queueGroupText, rfl, answersArguments_complete _ fun _ => rfl⟩
  · exact ⟨.cancelText, rfl, answersArguments_complete _ fun _ => rfl⟩
  · exact ⟨.clearStaging, rfl, answersArguments_complete _ fun _ => rfl⟩
  · exact ⟨.readInbound, rfl, answersArguments_complete _ fun _ => rfl⟩
  · exact ⟨.releaseInbound, rfl, answersArguments_complete _ fun _ => rfl⟩
  · exact ⟨.bufferStatus, rfl, answersArguments_complete _ fun _ => rfl⟩
  · exact ⟨.nextAttention, rfl, answersArguments_complete _ fun _ => rfl⟩
  · exact ⟨.startLine, rfl, answersArguments_complete _ fun _ => rfl⟩
  · exact ⟨.stopLine, rfl, answersArguments_complete _ fun _ => rfl⟩
  · exact ⟨.abortLine, rfl, answersArguments_complete _ fun _ => rfl⟩
  · exact ⟨.lineTest, rfl, answersArguments_lineTest⟩

end

/-- Settles O27: the code is judged by UNKNOWN COMMAND's own row, the arguments by the row of each command. -/
theorem commandsAreJudgedByCodeThenArguments : Obligations.CommandsAreJudgedByCodeThenArguments := by
  unfold Obligations.CommandsAreJudgedByCodeThenArguments
  refine ⟨fun s k hk hc => ?_, fun s k row hk hl hm hc hb => ?_⟩
  · show Host.Outcome.next _ = _
    rw [hk]
    simp only [hc, if_neg Bool.false_ne_true]
    rfl
  · obtain ⟨n, hrow, ha⟩ := commandRows_answer row hm
    rw [hrow] at hc hb
    refine ⟨?_, ?_⟩
    · rw [hc]; exact isCommandCode_row n
    · rw [State.refuses, ha s k hk hl hc hb, hrow, resultOctets_nil]
      rfl

end Sys2Proof.Machine
end

section
namespace Sys2Proof.Machine

/-! ### The searches of the Station Table (R9, R10, R12) -/

section
variable {s : State} {i : Slot} {a f v : Octet}

theorem isIndividualAddress_iff : isIndividualAddress a = true ↔ 1 ≤ a.toNat ∧ a.toNat ≤ 0xEF := by
  simp [isIndividualAddress]

theorem isIndividualAddress_eq_false : isIndividualAddress a = false ↔ a.toNat = 0 ∨ 0xEF < a.toNat := by
  rw [← Bool.not_eq_true, isIndividualAddress_iff]
  omega

theorem isGroupArgument_iff :
    isGroupArgument a = true ↔ a = 0 ∨ (0xF0 ≤ a.toNat ∧ a.toNat ≤ 0xFE) := by
  simp [isGroupArgument]

theorem isGroupArgument_eq_false :
    isGroupArgument a = false ↔ a ≠ 0 ∧ (a.toNat < 0xF0 ∨ a = 0xFF) := by
  have h0 : a = 0 ↔ a.toNat = 0 := by rw [← BitVec.toNat_inj]; rfl
  have hff : a = 0xFF ↔ a.toNat = 255 := by rw [← BitVec.toNat_inj]; rfl
  rw [← Bool.not_eq_true, isGroupArgument_iff, ne_eq, hff, h0]
  have := a.isLt
  omega

/-- An address held by no record in use is not found. -/
theorem slotOfAddress_eq_none :
    s.slotOfAddress a = none ↔ ∀ j : Slot, (s.record j).state ≠ .free → (s.record j).address ≠ a := by
  rw [State.slotOfAddress, find_finRange_eq_none]
  simp

theorem slotOfAddress_isSome (hs : (s.record i).state ≠ .free) (ha : (s.record i).address = a) :
    (s.slotOfAddress a).isSome = true := by
  rw [Option.isSome_iff_ne_none, ne_eq, slotOfAddress_eq_none]
  exact fun h => h i hs ha

/-- The addresses in use are distinct, so the one slot that holds an address is found (R9). -/
theorem slotOfAddress_of_addressWf (h : s.AddressWf) (hs : (s.record i).state ≠ .free)
    (ha : (s.record i).address = a) : s.slotOfAddress a = some i := by
  obtain ⟨j, hj⟩ := Option.isSome_iff_exists.mp (slotOfAddress_isSome hs ha)
  have hp := ((find_finRange_eq_some _ j).mp hj).1
  obtain ⟨hjs, hja⟩ : (s.record j).state ≠ .free ∧ (s.record j).address = a := by simpa using hp
  rw [hj, h.1 j i hjs hs (hja.trans ha.symm)]

theorem addressHeldByOther_iff :
    s.addressHeldByOther i a = true ↔
      ∃ j : Slot, j ≠ i ∧ (s.record j).state ≠ .free ∧ (s.record j).address = a := by
  simp [State.addressHeldByOther, and_assoc]

theorem addressHeldByOther_eq_false
    (h : ∀ j : Slot, j ≠ i → (s.record j).state ≠ .free → (s.record j).address ≠ a) :
    s.addressHeldByOther i a = false := by
  rw [← Bool.not_eq_true, addressHeldByOther_iff]
  exact fun ⟨j, hj, hs, ha⟩ => h j hj hs ha

theorem lowestFreeSlot_eq_some :
    s.lowestFreeSlot = some i ↔
      (s.record i).state = .free ∧ ∀ j : Slot, j < i → (s.record j).state ≠ .free := by
  rw [State.lowestFreeSlot, find_finRange_eq_some]
  simp

theorem lowestFreeSlot_eq_none :
    s.lowestFreeSlot = none ↔ ∀ j : Slot, (s.record j).state ≠ .free := by
  rw [State.lowestFreeSlot, find_finRange_eq_none]
  simp

theorem isModifyField_eq_false : isModifyField f = false ↔ f.toNat = 0 ∨ 4 < f.toNat := by
  rw [← Bool.not_eq_true, isModifyField]
  simp only [Bool.and_eq_true, decide_eq_true_eq]
  omega

end

/-! ### MODIFY STATION, its field named or of no field (R14, log 8) -/

section
variable {s u : State} {i : Slot} {c : ResultCode} {x f q v : Octet}
  {rule : Slot → Octet → State → Completion}

/-- The row of the field named completes MODIFY STATION, and so does every row for a field that is none. -/
theorem completeModify_of_body (h : s.inHand 0x13 [x, q, v])
    (hq : isModifyField q = false ∨ q = f)
    (hb : modifyStation rule [x, q, v] s = { state := u, code := c, data := [] }) :
    s.completeModify f rule = u.answered [c.octet] := by
  have hf : Command.selectsField { code := 0x13, args := [x, q, v], overflow := false } f = true := by
    obtain hq | hq := hq <;> simp [Command.selectsField, argument, hq]
  simp only [State.completeModify, h, hf, if_true]
  exact complete_of_answered (n := .modifyStation) h rfl hb rfl

theorem modifyStation_of_badSlot (hx : 40 ≤ x.toNat) :
    modifyStation rule [x, q, v] s = refuse s .badSlot :=
  withSlot_of_ge x s _ hx

theorem modifyStation_of_badField (hq : isModifyField q = false) :
    modifyStation rule [slotOctet i, q, v] s = refuse s .badField := by
  simp [modifyStation, argument, hq]

theorem modifyStation_of_not_isEnlisted (hq : isModifyField q = true)
    (he : (s.record i).state.isEnlisted = false) :
    modifyStation rule [slotOctet i, q, v] s = refuse s .wrongState := by
  cases hs : (s.record i).state <;> simp_all [modifyStation, argument, Lifecycle.isEnlisted]

theorem modifyStation_of_isEnlisted (hq : isModifyField q = true)
    (he : (s.record i).state.isEnlisted = true) :
    modifyStation rule [slotOctet i, q, v] s = rule i v s := by
  cases hs : (s.record i).state <;> simp_all [modifyStation, argument, Lifecycle.isEnlisted]

end

end Sys2Proof.Machine
end

section
namespace Sys2Proof.Machine

/-! ### Admission, lookup and reading (R8, R10, R12, R13) -/

theorem recordCodesAreNumbered_holds : recordCodesAreNumbered :=
  ⟨rfl, rfl, rfl, rfl, rfl, fun _ => rfl, rfl⟩

theorem appendUrgent_eq (s : State) (i : Slot) :
    s.appendUrgent i =
      { s with urgent := if s.urgent.length < 4 then s.urgent ++ [i] else s.urgent } := by
  unfold State.appendUrgent Config.urgentCapacity
  split <;> rfl

/-- Settles O28: the address is free to use, so the lowest FREE slot is filled. -/
theorem admitStationTakesTheLowestFreeSlot : Obligations.AdmitStationTakesTheLowestFreeSlot := by
  unfold Obligations.AdmitStationTakesTheLowestFreeSlot
  intro s a g q i h ha1 ha2 hg hfree hi hlow
  have ha := isIndividualAddress_iff.mpr ⟨ha1, ha2⟩
  have hg := isGroupArgument_iff.mpr hg
  have hb : admitStation [a, g, q] s =
      answer ((s.setRecord i (admittedRecord a g q)).appendUrgent i) .ok
        [slotOctet i, if s.urgent.length < Config.urgentCapacity then 1 else 0] := by
    simp [admitStation, argument, ha, hg, slotOfAddress_eq_none.mpr hfree,
      lowestFreeSlot_eq_some.mpr ⟨hi, hlow⟩]
  show Host.Outcome.next _ = _
  rw [complete_of_answered (n := .admitStation) h rfl hb rfl]
  rw [appendUrgent_eq]
  rfl

/-- Settles O29: by the address given and by the one slot that holds it. -/
theorem findStationAnswersByAddress : Obligations.FindStationAnswersByAddress := by
  unfold Obligations.FindStationAnswersByAddress
  refine ⟨recordCodesAreNumbered_holds, fun s a h => ⟨fun ha => ?_, fun ha1 ha2 hn => ?_,
    fun i ha1 ha2 hw hs hi => ?_⟩⟩
  · have hb : findStation [a] s = refuse s .badAddress := by
      simp [findStation, argument, isIndividualAddress_eq_false.mpr ha]
    exact congrArg Host.Outcome.next (complete_of_refused (n := .findStation) h rfl hb)
  · have hb : findStation [a] s = refuse s .notFound := by
      simp [findStation, argument, isIndividualAddress_iff.mpr ⟨ha1, ha2⟩,
        slotOfAddress_eq_none.mpr hn]
    exact congrArg Host.Outcome.next (complete_of_refused (n := .findStation) h rfl hb)
  · have hb : findStation [a] s = answer s .ok [slotOctet i, (s.record i).state.code] := by
      simp [findStation, argument, isIndividualAddress_iff.mpr ⟨ha1, ha2⟩,
        slotOfAddress_of_addressWf hw hs hi]
    exact congrArg Host.Outcome.next (complete_of_answered (n := .findStation) h rfl hb rfl)

/-- The six flags of READ STATION, weighed by their bits (R13, octet 4). -/
theorem bitOctets_eq_ofNat (a b c d e f : Bool) :
    bitOctet 0 a ||| bitOctet 1 b ||| bitOctet 2 c ||| bitOctet 3 d ||| bitOctet 4 e |||
        bitOctet 5 f =
      BitVec.ofNat 8 (a.toNat + 2 * b.toNat + 4 * c.toNat + 8 * d.toNat + 16 * e.toNat +
        32 * f.toNat) := by
  revert a b c d e f
  decide

/-- Settles O30: the record is read as it stands. -/
theorem readStationReportsTheRecord : Obligations.ReadStationReportsTheRecord := by
  unfold Obligations.ReadStationReportsTheRecord
  refine ⟨recordCodesAreNumbered_holds, fun s i h => ?_⟩
  have hb : readStation [slotOctet i] s = answer s .ok (s.stationOctets i) := by
    simp [readStation, argument]
  refine (congrArg Host.Outcome.next
    (complete_of_answered (n := .readStation) h rfl hb rfl)).trans ?_
  simp only [State.stationOctets, State.stationFlags, bitOctets_eq_ofNat]
  cases (s.record i).outboundText <;> rfl

/-! ### One field of a record (R14 to R18, R76) -/

section
variable {s : State} {i : Slot} {v : Octet}

theorem modifyGroup_of_legal (hv : v = 0 ∨ (0xF0 ≤ v.toNat ∧ v.toNat ≤ 0xFE)) :
    modifyGroup i v s =
      answer (s.modRecord i fun r => { r with group := if v = 0 then none else some v }) .ok [] :=
  if_pos (isGroupArgument_iff.mpr hv)

/-- Field ADDRESS of a station that is not visited: its checks, and resync pending where it is HELD (R15). -/
theorem modifyAddress_of_not_visited
    (hs : (s.record i).state.isProbed = true ∨ ∃ h, (s.record i).state = .held h) :
    modifyAddress i v s =
      if isIndividualAddress v = false then refuse s .badAddress
      else if s.addressHeldByOther i v then refuse s .addressInUse
      else answer (s.modRecord i fun r =>
        { r with
          address := v
          resyncPending := r.resyncPending || !(s.record i).state.isProbed }) .ok [] := by
  obtain hs | ⟨h, hs⟩ := hs
  · unfold modifyAddress
    split
    case h_5 e | h_6 e => simp [e, Lifecycle.isProbed]
    all_goals next e => simp [e, Lifecycle.isProbed] at hs
  · simp [modifyAddress, hs, Lifecycle.isProbed]

theorem modifyAddress_of_visited (hs : (s.record i).state.isVisited = true) :
    modifyAddress i v s = refuse s .wrongState := by
  unfold modifyAddress
  split
  case h_1 | h_2 => rfl
  all_goals next e => simp [e, Lifecycle.isVisited] at hs

/-- An address that is free to use is taken (R15). -/
theorem modifyAddress_of_free
    (hs : (s.record i).state.isProbed = true ∨ ∃ h, (s.record i).state = .held h)
    (hv1 : 1 ≤ v.toNat) (hv2 : v.toNat ≤ 0xEF)
    (ho : ∀ j : Slot, j ≠ i → (s.record j).state ≠ .free → (s.record j).address ≠ v) :
    modifyAddress i v s = answer (s.modRecord i fun r =>
      { r with
        address := v, resyncPending := r.resyncPending || !(s.record i).state.isProbed }) .ok [] := by
  rw [modifyAddress_of_not_visited hs, isIndividualAddress_iff.mpr ⟨hv1, hv2⟩,
    addressHeldByOther_eq_false ho]
  rfl

theorem Lifecycle.isEnlisted_of_isVisited {a : Lifecycle} (h : a.isVisited = true) :
    a.isEnlisted = true := by
  cases a <;> simp_all [Lifecycle.isVisited, Lifecycle.isEnlisted]

theorem Lifecycle.isEnlisted_of_not_visited {a : Lifecycle}
    (h : a.isProbed = true ∨ ∃ st, a = .held st) : a.isEnlisted = true := by
  cases a <;> simp_all [Lifecycle.isProbed, Lifecycle.isEnlisted]

theorem syncStation_of_taken
    (hs : (s.record i).state.isVisited = true ∨ ∃ h, (s.record i).state = .held h) :
    syncStation [slotOctet i] s = answer (s.setResync i) .ok [] := by
  simp only [syncStation, argument, List.getD_cons_zero, withSlot_slotOctet]
  split
  case h_1 | h_2 | h_3 => rfl
  all_goals next e => simp [e, Lifecycle.isVisited] at hs

theorem syncStation_of_refused
    (hs : (s.record i).state.isProbed = true ∨ (s.record i).state.isEnlisted = false) :
    syncStation [slotOctet i] s = refuse s .wrongState := by
  simp only [syncStation, argument, List.getD_cons_zero, withSlot_slotOctet]
  split
  case h_4 | h_5 | h_6 | h_7 => rfl
  all_goals next e => simp [e, Lifecycle.isProbed, Lifecycle.isEnlisted] at hs

/-- A field whose rule is carried out. -/
theorem completeModify_of_field {u : State} {f : Octet} {rule : Slot → Octet → State → Completion}
    (h : s.inHand 0x13 [slotOctet i, f, v]) (hf : isModifyField f = true)
    (he : (s.record i).state.isEnlisted = true) (hb : rule i v s = answer u .ok []) :
    s.completeModify f rule = u.answered [0x00] :=
  completeModify_of_body h (.inr rfl) ((modifyStation_of_isEnlisted hf he).trans hb)

end

/-- Settles O31: each rule changes the record in the field it names. -/
theorem oneRecordCommandsChangeOneField : Obligations.OneRecordCommandsChangeOneField := by
  unfold Obligations.OneRecordCommandsChangeOneField
  intro s i v
  refine ⟨fun h hs hv1 hv2 ho => ?_, fun st h hs hv1 hv2 ho => ?_, fun h he hv => ?_,
    fun h he => ?_, fun h he => ?_, fun h hs => ?_⟩
  · have hp : (s.record i).state.isProbed = true := by
      obtain hs | hs := hs <;> simp [hs, Lifecycle.isProbed]
    have hb := modifyAddress_of_free (.inl hp) hv1 hv2 ho
    simp only [hp, Bool.not_true, Bool.or_false] at hb
    exact congrArg Host.Outcome.next (completeModify_of_field h rfl
      (Lifecycle.isEnlisted_of_not_visited (.inl hp)) hb)
  · have hb := modifyAddress_of_free (.inr ⟨st, hs⟩) hv1 hv2 ho
    have hp : (s.record i).state.isProbed = false := by simp [hs, Lifecycle.isProbed]
    simp only [hp, Bool.not_false, Bool.or_true] at hb
    exact congrArg Host.Outcome.next (completeModify_of_field h rfl
      (Lifecycle.isEnlisted_of_not_visited (.inr ⟨st, hs⟩)) hb)
  · exact congrArg Host.Outcome.next (completeModify_of_field h rfl he (modifyGroup_of_legal hv))
  · exact congrArg Host.Outcome.next (completeModify_of_field h rfl he rfl)
  · exact congrArg Host.Outcome.next (completeModify_of_field h rfl he rfl)
  · exact congrArg Host.Outcome.next
      (complete_of_answered (n := .syncStation) h rfl (syncStation_of_taken hs) rfl)

/-! ### Hold, release and retirement, the checks (R19 to R21) -/

section
variable {s : State} {i : Slot}

theorem holdStation_of_inService {st : Standing} (hs : (s.record i).state = .inService st) :
    holdStation [slotOctet i] s =
      answer ((s.modRecord i fun r => { r with state := .held st }).removeUrgent i) .ok [] := by
  simp [holdStation, argument, hs]

theorem holdStation_of_held {st : Standing} (hs : (s.record i).state = .held st) :
    holdStation [slotOctet i] s = refuse s .already := by
  simp [holdStation, argument, hs]

theorem holdStation_of_not_isEnlisted (hs : (s.record i).state.isEnlisted = false) :
    holdStation [slotOctet i] s = refuse s .wrongState := by
  cases e : (s.record i).state <;> simp_all [holdStation, argument, Lifecycle.isEnlisted]

theorem releaseStation_of_visited
    (hs : (s.record i).state = .held .active ∨ (s.record i).state = .held .suspect) :
    releaseStation [slotOctet i] s = answer (s.modRecord i fun r =>
      { r with state := .inService .active, missCount := 0, resyncPending := true }) .ok [] := by
  obtain hs | hs := hs <;> simp [releaseStation, argument, hs]

theorem releaseStation_of_staged (hs : (s.record i).state = .held .staged) :
    releaseStation [slotOctet i] s = answer
      ((s.modRecord i fun r => { r with state := .inService .staged }).appendUrgent i) .ok [] := by
  simp [releaseStation, argument, hs]

theorem releaseStation_of_lost (hs : (s.record i).state = .held .lost) :
    releaseStation [slotOctet i] s =
      answer (s.modRecord i fun r => { r with state := .inService .lost }) .ok [] := by
  simp [releaseStation, argument, hs]

theorem releaseStation_of_not_held (hs : ∀ h, (s.record i).state ≠ .held h) :
    releaseStation [slotOctet i] s = refuse s .wrongState := by
  cases e : (s.record i).state <;> simp_all [releaseStation, argument]

theorem retireStation_of_isEnlisted (hs : (s.record i).state.isEnlisted = true) :
    retireStation [slotOctet i] s = answer (s.retire i) .ok [] := by
  cases e : (s.record i).state <;> simp_all [retireStation, argument, Lifecycle.isEnlisted]

end

/-- Settles O32: by the state that the command finds. -/
theorem holdAndReleaseMoveTheStation : Obligations.HoldAndReleaseMoveTheStation := by
  unfold Obligations.HoldAndReleaseMoveTheStation
  intro s i
  refine ⟨fun st h hs => ?_, fun h hs => ?_, fun h hs => ?_, fun h hs => ?_⟩
  · exact congrArg Host.Outcome.next
      (complete_of_answered (n := .holdStation) h rfl (holdStation_of_inService hs) rfl)
  · exact congrArg Host.Outcome.next
      (complete_of_answered (n := .releaseStation) h rfl (releaseStation_of_visited hs) rfl)
  · have hb := releaseStation_of_staged hs
    rw [appendUrgent_eq] at hb
    exact congrArg Host.Outcome.next
      (complete_of_answered (n := .releaseStation) h rfl hb rfl)
  · exact congrArg Host.Outcome.next
      (complete_of_answered (n := .releaseStation) h rfl (releaseStation_of_lost hs) rfl)

/-- Settles O35: by the engine's state. -/
theorem tableResetEmptiesTheTable : Obligations.TableResetEmptiesTheTable := by
  unfold Obligations.TableResetEmptiesTheTable
  intro s h
  refine ⟨fun he => ?_, fun he => ?_⟩
  · have hb : tableReset [] s = answer s.emptyTable .ok [] := if_pos he
    exact congrArg Host.Outcome.next (complete_of_answered (n := .tableReset) h rfl hb rfl)
  · have hb : tableReset [] s = refuse s .lineRunning := if_neg he
    exact congrArg Host.Outcome.next (complete_of_refused (n := .tableReset) h rfl hb)

end Sys2Proof.Machine
end

section
namespace Sys2Proof.Machine

/-! ### The checks of the commands that take a slot (R11 to R21, R76) -/

section
variable {s : State} {i : Slot} {x a g q v : Octet}

theorem ringInsert_of_badSlot (p : Octet) (hx : 40 ≤ x.toNat) :
    ringInsert [p, x] s = refuse s .badSlot := by
  unfold ringInsert
  exact withSlot_of_ge x s _ hx

/-- A slot argument above 39 stops each command that takes a slot (R11). -/
theorem slotCommands_of_badSlot (p : Octet) (hx : 40 ≤ x.toNat) :
    readStation [x] s = refuse s .badSlot ∧ holdStation [x] s = refuse s .badSlot ∧
    releaseStation [x] s = refuse s .badSlot ∧ retireStation [x] s = refuse s .badSlot ∧
    syncStation [x] s = refuse s .badSlot ∧ ringInsert [p, x] s = refuse s .badSlot ∧
    pollNow [x] s = refuse s .badSlot ∧ queueText [x] s = refuse s .badSlot ∧
    cancelText [x] s = refuse s .badSlot :=
  ⟨withSlot_of_ge x s _ hx, withSlot_of_ge x s _ hx, withSlot_of_ge x s _ hx,
    withSlot_of_ge x s _ hx, withSlot_of_ge x s _ hx, ringInsert_of_badSlot p hx,
    withSlot_of_ge x s _ hx, withSlot_of_ge x s _ hx, withSlot_of_ge x s _ hx⟩

theorem admitStation_of_badAddress
    (h : isIndividualAddress a = false ∨ isGroupArgument g = false) :
    admitStation [a, g, q] s = refuse s .badAddress :=
  if_pos h

theorem admitStation_of_held (ha : isIndividualAddress a = true) (hg : isGroupArgument g = true)
    (hs : (s.slotOfAddress a).isSome = true) :
    admitStation [a, g, q] s = refuse s .addressInUse := by
  simp [admitStation, argument, ha, hg, hs]

theorem admitStation_of_full (ha : isIndividualAddress a = true) (hg : isGroupArgument g = true)
    (hs : s.slotOfAddress a = none) (hf : s.lowestFreeSlot = none) :
    admitStation [a, g, q] s = refuse s .tableFull := by
  simp [admitStation, argument, ha, hg, hs, hf]

/-- A field's rule that stops MODIFY STATION of an enlisted station. -/
theorem completeModify_of_fieldRefused {c : ResultCode} {f : Octet}
    {rule : Slot → Octet → State → Completion} (h : s.inHand 0x13 [slotOctet i, f, v])
    (hf : isModifyField f = true) (he : (s.record i).state.isEnlisted = true)
    (hb : rule i v s = refuse s c) : s.completeModify f rule = s.answered [c.octet] :=
  completeModify_of_body h (.inr rfl) ((modifyStation_of_isEnlisted hf he).trans hb)

end

/-- Settles O36: each check, with the checks before it passed. -/
theorem stationCommandsAreRefused : Obligations.StationCommandsAreRefused := by
  unfold Obligations.StationCommandsAreRefused
  refine ⟨fun s x p v hx => ?_, fun s a g q v i => ?_⟩
  · obtain ⟨hread, hhold, hrelease, hretire, hsync, hinsert, hpoll, hqueue, hcancel⟩ :=
      slotCommands_of_badSlot (s := s) p hx
    have hmodify (f : Octet) (rule : Slot → Octet → State → Completion)
        (h : s.inHand 0x13 [x, f, v]) : s.completeModify f rule = s.answered [0x12] :=
      completeModify_of_body h (.inr rfl) (modifyStation_of_badSlot hx)
    exact ⟨fun h => congrArg _ (complete_of_refused (n := .readStation) h rfl hread),
      fun h => congrArg _ (hmodify 1 _ h), fun h => congrArg _ (hmodify 2 _ h),
      fun h => congrArg _ (hmodify 3 _ h), fun h => congrArg _ (hmodify 4 _ h),
      fun h => congrArg _ (complete_of_refused (n := .holdStation) h rfl hhold),
      fun h => congrArg _ (complete_of_refused (n := .releaseStation) h rfl hrelease),
      fun h => congrArg _ (complete_of_refused (n := .retireStation) h rfl hretire),
      fun h => congrArg _ (complete_of_refused (n := .syncStation) h rfl hsync),
      fun h => congrArg _ (complete_of_refused (n := .ringInsert) h rfl hinsert),
      fun h => congrArg _ (complete_of_refused (n := .pollNow) h rfl hpoll),
      fun h => congrArg _ (complete_of_refused (n := .queueText) h rfl hqueue),
      fun h => congrArg _ (complete_of_refused (n := .cancelText) h rfl hcancel)⟩
  · refine ⟨fun h hc => ?_, fun h ha1 ha2 hg => ?_, fun h hq => ?_, fun he => ?_, fun h hs => ?_,
      fun h hs => ?_, fun h he hv => ?_, fun h => ?_, fun h hs => ?_, fun h => ?_, fun h hs => ?_⟩
    · have hbad : isIndividualAddress a = false ∨ isGroupArgument g = false := by
        rw [isIndividualAddress_eq_false, isGroupArgument_eq_false, or_assoc]
        exact hc
      exact congrArg _
        (complete_of_refused (n := .admitStation) h rfl (admitStation_of_badAddress hbad))
    · have ha := isIndividualAddress_iff.mpr ⟨ha1, ha2⟩
      have hg := isGroupArgument_iff.mpr hg
      refine ⟨fun hs hi => ?_, fun hall => ?_⟩
      · exact congrArg _ (complete_of_refused (n := .admitStation) h rfl
          (admitStation_of_held ha hg (slotOfAddress_isSome hs hi)))
      · have hnone := slotOfAddress_eq_none.mpr fun j _ => (hall j).2
        have hfull := lowestFreeSlot_eq_none.mpr fun j => (hall j).1
        exact congrArg _ (complete_of_refused (n := .admitStation) h rfl
          (admitStation_of_full ha hg hnone hfull))
    · have hq := isModifyField_eq_false.mpr hq
      have hfield (f : Octet) (rule : Slot → Octet → State → Completion) :
          s.completeModify f rule = s.answered [0x22] :=
        completeModify_of_body h (.inl hq) (modifyStation_of_badField hq)
      exact ⟨congrArg _ (hfield 1 _), congrArg _ (hfield 2 _), congrArg _ (hfield 3 _),
        congrArg _ (hfield 4 _)⟩
    · have hstate (f : Octet) (rule : Slot → Octet → State → Completion)
          (hf : isModifyField f = true) (h : s.inHand 0x13 [slotOctet i, f, v]) :
          s.completeModify f rule = s.answered [0x17] :=
        completeModify_of_body h (.inr rfl) (modifyStation_of_not_isEnlisted hf he)
      exact ⟨fun h => congrArg _ (hstate 1 _ rfl h), fun h => congrArg _ (hstate 2 _ rfl h),
        fun h => congrArg _ (hstate 3 _ rfl h), fun h => congrArg _ (hstate 4 _ rfl h)⟩
    · exact congrArg _ (completeModify_of_fieldRefused h rfl
        (Lifecycle.isEnlisted_of_isVisited hs) (modifyAddress_of_visited hs))
    · have he := Lifecycle.isEnlisted_of_not_visited hs
      refine ⟨fun hv => ?_, fun j hv1 hv2 hj hjs hja => ?_⟩
      · have hb : modifyAddress i v s = refuse s .badAddress := by
          rw [modifyAddress_of_not_visited hs, if_pos (isIndividualAddress_eq_false.mpr hv)]
        exact congrArg _ (completeModify_of_fieldRefused h rfl he hb)
      · have hb : modifyAddress i v s = refuse s .addressInUse := by
          rw [modifyAddress_of_not_visited hs, isIndividualAddress_iff.mpr ⟨hv1, hv2⟩,
            addressHeldByOther_iff.mpr ⟨j, hj, hjs, hja⟩]
          rfl
        exact congrArg _ (completeModify_of_fieldRefused h rfl he hb)
    · have hb : modifyGroup i v s = refuse s .badAddress := by
        rw [modifyGroup, isGroupArgument_eq_false.mpr hv]
        rfl
      exact congrArg _ (completeModify_of_fieldRefused h rfl he hb)
    · refine ⟨fun ⟨st, hs⟩ => ?_, fun hs => ?_⟩
      · exact congrArg _ (complete_of_refused (n := .holdStation) h rfl (holdStation_of_held hs))
      · exact congrArg _
          (complete_of_refused (n := .holdStation) h rfl (holdStation_of_not_isEnlisted hs))
    · exact congrArg _
        (complete_of_refused (n := .releaseStation) h rfl (releaseStation_of_not_held hs))
    · refine ⟨fun hs => ?_, fun hs => ?_⟩
      · have hb : retireStation [slotOctet i] s = refuse s .already := by
          simp [retireStation, argument, hs]
        exact congrArg _ (complete_of_refused (n := .retireStation) h rfl hb)
      · have hb : retireStation [slotOctet i] s = refuse s .wrongState := by
          simp [retireStation, argument, hs]
        exact congrArg _ (complete_of_refused (n := .retireStation) h rfl hb)
    · exact congrArg _
        (complete_of_refused (n := .syncStation) h rfl (syncStation_of_refused hs))

end Sys2Proof.Machine
end

section
namespace Sys2Proof.Machine

/-! ### RETIRE STATION carried out (R21, R22, R80, R99) -/

section
variable {s : State} {i : Slot}

theorem contextNames_congr {t : State} (h : t.context = s.context) :
    t.contextNames i = s.contextNames i := by
  simp only [State.contextNames, h]

theorem retiredIf_purged (s : State) (i : Slot) :
    (s.purged i).retiredIf i =
      if (s.record i).inboundCount = 0 ∧ s.contextNames i = false then 0x200 else 0 := by
  have hc : (s.purged i).contextNames i = s.contextNames i :=
    
    contextNames_congr (SlotFrame.context (s := s.unlisted i) (s.purged_frame i))
  have hn : ((s.purged i).record i).inboundCount = (s.record i).inboundCount := by
    rw [s.record_purged_same]
    split <;> rfl
  rw [State.retiredIf, hc, hn]

/-- A retired record: RETIRED is its only reason, and a FILLED text is gone (R21, R22). -/
theorem record_retire_same (s : State) (i : Slot) :
    (s.retire i).record i =
      { s.record i with
        state := .retiring, ringCount := 0, failureCause := .none
        reasons :=
          if (s.record i).inboundCount = 0 ∧ s.contextNames i = false then 0x200 else 0
        outboundText := if s.textFilled i then none else (s.record i).outboundText
        retryCount := if s.textFilled i then 0 else (s.record i).retryCount
        cancelRequested := if s.textFilled i then false else (s.record i).cancelRequested } := by
  rw [s.retire_eq_noted, State.record_noted_same, s.reasons_purged, retiredIf_purged,
    s.record_purged_same]
  cases s.textFilled i <;> simp [Record.retired, Record.textFreed]

theorem textFilled_names (h : s.textFilled i = true) : ∃ b, (s.record i).outboundText = some b := by
  cases hb : (s.record i).outboundText with
  | none => rw [textFilled_of_none hb] at h; cases h
  | some b => exact ⟨b, rfl⟩

/-- BUFFER FREE comes with a FILLED text freed, where a buffer was wanted (R80). -/
theorem bufferFlags_purged (s : State) (i : Slot) :
    (s.purged i).causeBufferFree = (s.causeBufferFree || (s.textFilled i && s.bufferWanted)) ∧
    (s.purged i).bufferWanted = (s.bufferWanted && !s.textFilled i) := by
  unfold State.purged
  split
  · next h =>
    obtain ⟨b, hb⟩ := textFilled_names h
    have hb : ((s.unlisted i).record i).outboundText = some b := by
      rw [s.record_unlisted_same]; exact hb
    rw [State.freeText_of_some _ i b hb, h]
    exact ⟨by rw [Bool.true_and]; rfl, by simp⟩
  · next h =>
    have h : s.textFilled i = false := by simpa using h
    rw [h]
    exact ⟨by rw [Bool.false_and, Bool.or_false]; rfl, by simp; rfl⟩

/-- RETIRE STATION leaves every other block as it was. -/
theorem retire_frame (s : State) (i : Slot) :
    s.retire i =
      { s with
        records := (s.retire i).records, ring := (s.retire i).ring
        ringCursor := (s.retire i).ringCursor, urgent := (s.retire i).urgent
        attention := (s.retire i).attention, buffers := (s.retire i).buffers
        causeBufferFree := (s.retire i).causeBufferFree
        bufferWanted := (s.retire i).bufferWanted } := by
  have hp : s.purged i =
      { s.unlisted i with
        records := (s.purged i).records, buffers := (s.purged i).buffers
        causeBufferFree := (s.purged i).causeBufferFree
        bufferWanted := (s.purged i).bufferWanted } := by
    unfold State.purged
    split
    · exact State.freeText_frame _ i
    · rfl
  rw [s.retire_eq_noted]
  generalize (s.purged i).retiredIf i = rs
  generalize (s.purged i).record i = r
  rw [hp]
  rfl

theorem attention_retire (s : State) (i : Slot) :
    (s.retire i).attention = s.attention.filter (· != i) ++
      (if (s.record i).inboundCount = 0 ∧ s.contextNames i = false then [i] else []) := by
  rw [s.retire_eq_noted, retiredIf_purged]
  simp only [State.noted, State.listed, s.attention_purged, s.reasons_purged]
  split <;> simp

theorem lists_retire (s : State) (i : Slot) :
    (s.retire i).ring = s.ring.filter (· != i) ∧ (s.retire i).urgent = s.urgent.filter (· != i) := by
  rw [s.retire_eq_noted]
  unfold State.purged
  split
  · exact ⟨by rw [State.freeText_frame]; rfl, by rw [State.freeText_frame]; rfl⟩
  · exact ⟨rfl, rfl⟩

end

/-- Settles O33: the slot taken off every list, its FILLED text freed, then the RETIRED test. -/
theorem retireStationPurgesTheSlot : Obligations.RetireStationPurgesTheSlot := by
  unfold Obligations.RetireStationPurgesTheSlot
  intro s i h he r filled gone
  have hx : exec .retireStation s = .next ((s.retire i).answered [0x00]) :=
    congrArg Host.Outcome.next
      (complete_of_answered (n := .retireStation) h rfl (retireStation_of_isEnlisted he) rfl)
  have hbuf : (s.retire i).buffers = (s.purged i).buffers := by rw [s.retire_eq_noted]; rfl
  have hcause : (s.retire i).causeBufferFree = (s.purged i).causeBufferFree := by
    rw [s.retire_eq_noted]; rfl
  have hwant : (s.retire i).bufferWanted = (s.purged i).bufferWanted := by
    rw [s.retire_eq_noted]; rfl
  refine ⟨_, hx, record_retire_same s i, fun j hj => ?_, (lists_retire s i).1, (lists_retire s i).2,
    attention_retire s i, fun b => ?_, ?_, ?_, ?_⟩
  · show (s.retire i).record j = s.record j
    rw [s.retire_eq_noted, State.record_noted_ne _ _ _ _ _ hj, s.record_purged_ne i j hj]
  · show (s.retire i).buffers[b.val] = _
    simp only [hbuf]
    exact buffers_purged b
  · exact hcause.trans (bufferFlags_purged s i).1
  · exact hwant.trans (bufferFlags_purged s i).2
  · exact congrArg (State.answered · [0x00]) (retire_frame s i)

end Sys2Proof.Machine
end

section
namespace Sys2Proof.Machine

/-! ### The octets of NEXT ATTENTION (R95, R100) -/

theorem reasonsLow_eq (rs : ReasonSet) : reasonsLow rs = rs.setWidth 8 := by
  apply BitVec.eq_of_getLsbD_eq
  intro k hk
  have hk' : k < 16 := by omega
  simp [reasonsLow, lowOctet, hk, hk']

theorem reasonsHigh_eq (rs : ReasonSet) :
    reasonsHigh rs =
      BitVec.ofNat 8 ((rs.getLsbD 8).toNat + 2 * (rs.getLsbD 9).toNat) := by
  apply BitVec.eq_of_getLsbD_eq
  intro k hk
  have hbits : ∀ a b : Bool, ∀ k < 8,
      (BitVec.ofNat 8 (a.toNat + 2 * b.toNat)).getLsbD k =
        if k = 0 then a else if k = 1 then b else false := by decide
  rw [hbits _ _ k hk]
  simp only [reasonsHigh, highOctet, BitVec.getLsbD_extractLsb', BitVec.getLsbD_setWidth]
  match k, hk with
  | 0, _ => simp
  | 1, _ => simp
  | m + 2, _ =>
    have : rs.getLsbD (8 + (m + 2)) = false := BitVec.getLsbD_of_ge rs _ (by omega)
    simp [this]

/-- Settles O44: the head slot's record is reported and then taken. -/
theorem nextAttentionTakesTheHead : Obligations.NextAttentionTakesTheHead := by
  unfold Obligations.NextAttentionTakesTheHead
  refine ⟨recordCodesAreNumbered_holds, fun s h => ⟨fun hnone => ?_, fun i rest hl => ?_⟩⟩
  · have hb : nextAttention [] s = refuse s .none := by simp [nextAttention, hnone]
    exact congrArg _ (complete_of_refused (n := .nextAttention) h rfl hb)
  · have hb : nextAttention [] s = answer (s.taken i rest) .ok (s.attentionOctets i) := by
      simp [nextAttention, hl, State.taken]
    refine (congrArg Host.Outcome.next
      (complete_of_answered (n := .nextAttention) h rfl hb rfl)).trans ?_
    simp only [State.attentionOctets, reasonsLow_eq, reasonsHigh_eq]
    cases (s.record i).failureCause <;> rfl

/-! ### The inbound pair (R92, R93) -/

section
variable {s : State} {x : InboundText} {rest : List InboundText}

theorem record_dropInbound_same : (s.dropInbound x rest).record x.slot =
    { s.record x.slot with inboundCount := (s.record x.slot).inboundCount - 1 } :=
  s.record_modRecord_same x.slot fun r => { r with inboundCount := r.inboundCount - 1 }

/-- The RETIRED test after the head buffer is given back (R22, R93). -/
theorem retiredIf_dropInbound : (s.dropInbound x rest).retiredIf x.slot =
    if (s.record x.slot).inboundCount ≤ 1 ∧ s.contextNames x.slot = false then 0x200 else 0 := by
  rw [State.retiredIf, record_dropInbound_same]
  simp only [Nat.sub_eq_zero_iff_le]
  rfl

/-- A record that is not RETIRING loses the count alone. -/
theorem releaseInbound_of_not_retiring (hs : (s.record x.slot).state ≠ .retiring) :
    (s.dropInbound x rest).testRetired x.slot = s.dropInbound x rest :=
  State.testRetired_of_not_retiring _ _ (by rw [record_dropInbound_same]; exact hs)

theorem releaseInbound_of_retiring (hs : (s.record x.slot).state = .retiring) :
    (s.dropInbound x rest).testRetired x.slot =
      (s.dropInbound x rest).noted x.slot
        (if (s.record x.slot).inboundCount ≤ 1 ∧ s.contextNames x.slot = false then 0x200 else 0)
        { s.record x.slot with inboundCount := (s.record x.slot).inboundCount - 1 } := by
  rw [State.testRetired_of_retiring (by rw [record_dropInbound_same]; exact hs),
    retiredIf_dropInbound, record_dropInbound_same]

/-- The head text given back, the record of its slot aside (R93). -/
theorem releaseInbound_frame :
    (s.dropInbound x rest).testRetired x.slot =
      { s.setRecord x.slot (((s.dropInbound x rest).testRetired x.slot).record x.slot) with
        inbound := rest, inboundCursor := 0
        attention :=
          if ((s.record x.slot).state = .retiring ∧ (s.record x.slot).inboundCount ≤ 1 ∧
              s.contextNames x.slot = false) ∧ (s.record x.slot).reasons = 0
            then s.attention ++ [x.slot] else s.attention } := by
  by_cases hs : (s.record x.slot).state = .retiring
  · rw [releaseInbound_of_retiring hs, State.record_noted_same]
    simp only [State.noted, State.listed, record_dropInbound_same, hs, true_and]
    by_cases hc : (s.record x.slot).inboundCount ≤ 1 ∧ s.contextNames x.slot = false
    · simp [hc, State.dropInbound, State.modRecord, State.setRecord]
    · simp [hc, State.dropInbound, State.modRecord, State.setRecord]
  · rw [releaseInbound_of_not_retiring hs, record_dropInbound_same, if_neg fun h => hs h.1.1]
    rfl

end

/-- Settles O42: READ INBOUND and RELEASE INBOUND by the pair's head. -/
theorem inboundTextIsReadAndReleased : Obligations.InboundTextIsReadAndReleased := by
  unfold Obligations.InboundTextIsReadAndReleased
  intro s
  refine ⟨fun h hn => ?_, fun h hn => ?_, fun x rest h hl => ?_, fun x rest h hl => ?_⟩
  · have hb : readInbound [] s = refuse s .noText := by simp [readInbound, hn]
    exact congrArg _ (complete_of_refused (n := .readInbound) h rfl hb)
  · have hb : releaseInbound [] s = refuse s .noText := by simp [releaseInbound, hn]
    exact congrArg _ (complete_of_refused (n := .releaseInbound) h rfl hb)
  · have hb : readInbound [] s = answer { s with inboundCursor := 0 } .ok
        [slotOctet x.slot, x.address, octetOfNat x.text.length] := by simp [readInbound, hl]
    exact congrArg _ (complete_of_answered (n := .readInbound) h rfl hb rfl)
  · intro last
    have hb : releaseInbound [] s =
        answer ((s.dropInbound x rest).testRetired x.slot) .ok [] := by simp [releaseInbound, hl]
    have hx := complete_of_answered (n := .releaseInbound) h rfl hb rfl
    refine ⟨_, congrArg Host.Outcome.next hx, ?_, ?_⟩
    · show ((s.dropInbound x rest).testRetired x.slot).record x.slot = _
      by_cases hs : (s.record x.slot).state = .retiring
      · rw [releaseInbound_of_retiring hs, State.record_noted_same]
        simp only [last, hs, true_and]
        split <;> simp
      · rw [releaseInbound_of_not_retiring hs, record_dropInbound_same, if_neg fun h => hs h.1]
    · exact congrArg (State.answered · [0x00]) releaseInbound_frame

end Sys2Proof.Machine
end

section
namespace Sys2Proof.Machine

/-! ### Reset (R1, R154, R177) -/

theorem wf_reset : State.reset.Wf := wf_iff.mpr ⟨empty_reset.ledgerWf, lineWf_reset⟩

/-- The sixteen values of the Parameter File at reset (R154). -/
theorem readAt_default : ∀ k : Nat, k < 16 → Params.default.readAt (BitVec.ofNat 8 k) =
    [0x96, 0x9A, 2, 1, 0, 0x00, 0x04, 24, 8, 2, 32, 3, 8, 3, 2, 0].getD k 0 := by
  decide

/-- Settles O5: the reset values block by block, and the invariant they meet. -/
theorem resetHoldsTheResetValues : Obligations.ResetHoldsTheResetValues := by
  unfold Obligations.ResetHoldsTheResetValues
  refine ⟨⟨rfl, rfl, rfl, rfl⟩, ⟨rfl, rfl, rfl, rfl⟩, ⟨rfl, rfl, rfl, rfl⟩, readAt_default,
    ⟨rfl, rfl, rfl⟩, ⟨rfl, rfl, rfl, rfl⟩, record_reset, empty_reset.buffers,
    ⟨rfl, rfl, rfl, rfl, rfl⟩, ⟨rfl, rfl, rfl, rfl⟩, ⟨rfl, rfl, rfl, rfl⟩, wf_reset, ?_⟩
  exact fun h => absurd h Bool.false_ne_true

end Sys2Proof.Machine
end

section
namespace Sys2Proof.Machine

/-! ### Operations on a noted record

Every outcome of an exchange is a chain of operations on one record. Each lemma carries one of them past `State.noted`: what
the chain has made of the record and of its reasons so far is `(s.noted i a r)`, with the reason set of `r` as `s` holds it. -/

section
variable {s : State} {i : Slot} {a q : ReasonSet} {r x : Record}

theorem State.eq_noted (s : State) (i : Slot) : s = s.noted i 0 (s.record i) := by
  rw [State.noted_zero, State.setRecord_record]

theorem noReason_or (a : ReasonSet) : 0 ||| a = a := BitVec.zero_or

theorem or_noReason (a : ReasonSet) : a ||| 0 = a := BitVec.or_zero

/-- Two notices of one slot list it once, at the first that raises a reason (R98). -/
theorem listed_noted (hr : r.reasons = (s.record i).reasons) :
    (s.noted i a r).listed i q = s.listed i (a ||| q) := by
  unfold State.listed
  rw [State.record_noted_same, hr]
  simp only [State.noted, State.listed, ne_eq]
  by_cases ha : a = 0#10 <;> by_cases h0 : (s.record i).reasons = 0#10 <;> simp [ha, h0]

/-- A notice after a notice is one with the reasons of both. -/
theorem noted_noted (hr : r.reasons = (s.record i).reasons) (hx : x.reasons = r.reasons ||| a) :
    (s.noted i a r).noted i q x = s.noted i (a ||| q) { x with reasons := r.reasons } := by
  have hset : (s.noted i a r).setRecord i { x with reasons := x.reasons ||| q } =
      { s.setRecord i { x with reasons := r.reasons ||| (a ||| q) } with
        attention := s.listed i a } := by
    rw [hx, BitVec.or_assoc]
    simp [State.noted, State.setRecord]
  have hnoted : (s.noted i a r).noted i q x =
      { (s.noted i a r).setRecord i { x with reasons := x.reasons ||| q } with
        attention := (s.noted i a r).listed i q } := rfl
  rw [hnoted, hset, listed_noted hr]
  rfl

theorem noted_raise (w : Reason) (hr : r.reasons = (s.record i).reasons)
    (hw : mayRaise r.state w = true) :
    (s.noted i a r).raise i w = s.noted i (a ||| reasonAdd 0 w) r := by
  rw [State.raise_eq_noted _ i w (by rw [State.record_noted_same]; exact hw),
    State.record_noted_same, noted_noted hr rfl]

theorem noted_raise_of_not_mayRaise (w : Reason) (hw : mayRaise r.state w = false) :
    (s.noted i a r).raise i w = s.noted i a r :=
  State.raise_of_not_mayRaise _ i w (by rw [State.record_noted_same]; exact hw)

/-- A change that leaves the reasons alone goes into the record noted. -/
theorem noted_modRecord (f : Record → Record)
    (hf : f { r with reasons := r.reasons ||| a } =
      { f r with reasons := (f r).reasons ||| a }) :
    (s.noted i a r).modRecord i f = s.noted i a (f r) := by
  rw [State.modRecord, State.record_noted_same, hf]
  simp [State.noted, State.setRecord]

theorem noted_raiseFailed (w : FailureCause) (hr : r.reasons = (s.record i).reasons)
    (hw : mayRaise r.state .failed = true) :
    (s.noted i a r).raiseFailed i w = s.noted i (a ||| 0x020) { r with failureCause := w } := by
  rw [State.raiseFailed_of_mayRaise _ i w (by rw [State.record_noted_same]; exact hw),
    noted_raise .failed hr hw, noted_modRecord _ rfl]
  rfl

/-- The text of a noted record freed (R62, R80). -/
theorem noted_freeText (b : BufferNo) (hb : r.outboundText = some b) :
    (s.noted i a r).freeText i = (s.bufferFreed b).noted i a r.textFreed := by
  rw [State.freeText_eq_bufferFreed _ i b (by rw [State.record_noted_same]; exact hb),
    State.record_noted_same]
  simp [State.noted, State.setRecord, State.bufferFreed, Record.textFreed]
  rfl

theorem noted_failText (b : BufferNo) (w : FailureCause) (hb : r.outboundText = some b)
    (hr : r.reasons = (s.record i).reasons) (hw : mayRaise r.state .failed = true) :
    (s.noted i a r).failText i w =
      (s.bufferFreed b).noted i (a ||| 0x020) { r.textFreed with failureCause := w } := by
  rw [State.failText, noted_freeText b hb]
  exact noted_raiseFailed w hr hw

/-- The text of a noted record returned (R62). -/
theorem noted_returnText (b : BufferNo) (o : Slot) (t : List Octet) (hb : r.outboundText = some b)
    (ht : s.buffers[b.val] = .inFlight o t) :
    (s.noted i a r).returnText i =
      { s with buffers := s.buffers.set b.val (.filled o t) }.noted i a r := by
  rw [State.returnText_of_inFlight (s.noted i a r) i o b t (by rw [State.record_noted_same]; exact hb) ht]
  rfl

/-- The RETIRED test of a noted record (R22). -/
theorem noted_testRetired (hr : r.reasons = (s.record i).reasons) (hs : r.state = .retiring) :
    (s.noted i a r).testRetired i =
      s.noted i (a ||| if r.inboundCount = 0 ∧ s.contextNames i = false then 0x200 else 0) r := by
  rw [State.testRetired_of_retiring (by rw [State.record_noted_same]; exact hs),
    State.record_noted_same, noted_noted hr rfl, State.retiredIf, State.record_noted_same]
  rfl

end

/-! ### The end of a context on a noted record (R22, R52) -/

section
variable {s : State} {i : Slot} {a : ReasonSet} {r : Record} {x : Exchange}

theorem endContext_noted (hi : x.slot? = some i) (hs : r.state ≠ .retiring) :
    (s.noted i a r).endContext x = { s.noted i a r with context := none } := by
  refine State.endContext_of_not_retiring _ x fun j hj => ?_
  obtain rfl : i = j := Option.some.inj (hi.symm.trans hj)
  rw [State.record_noted_same]
  exact hs

/-- The end of a context is the last event that holds RETIRED back (R22). -/
theorem endContext_noted_of_retiring (hi : x.slot? = some i)
    (hr : r.reasons = (s.record i).reasons) (hs : r.state = .retiring) :
    (s.noted i 0 r).endContext x =
      { s.noted i (if r.inboundCount = 0 then 0x200 else 0) r with context := none } := by
  rw [endContext_of_slot _ x hi]
  show ({ s with context := none }.noted i 0 r).testRetired i = _
  rw [noted_testRetired (s := { s with context := none }) hr hs, noReason_or]
  simp only [State.contextNames, and_true]
  rfl

end

end Sys2Proof.Machine
end

section
namespace Sys2Proof.Machine

/-! ### A reply judged, with its outcome in closed form (R52, R127, R141, R142) -/

section
variable {s u : State} {c : Context} {i : Slot} {o : Octet} {j : Judgement} {a : ReasonSet}
  {r : Record}

theorem exec_blockJudged (h : s.judges o c j) :
    exec (.blockJudged o) s = .next (s.replyJudged c j) := by
  obtain ⟨he, _, hp, hc, hj⟩ := h
  obtain ⟨rx, hrx⟩ := (Taken.judgement?_eq_some _ j).mp hj
  show Host.Outcome.next (s.blockJudged o) = _
  have hb : s.takesBody = true ∧ s.receiver.phase = .body := ⟨by simp [State.takesBody, he], hp⟩
  simp only [State.blockJudged, if_pos hb, hrx, he, hc]

theorem enterSettling_eq_settled (hd : u.dcd = true) :
    { u with context := none }.enterSettling = u.settled :=
  State.enterSettling_of_dcd _ hd

/-- A reply whose outcome leaves the record out of RETIRING. -/
theorem judged_settles (h : s.judges o c j) (hi : c.exchange.slot? = some i)
    (hu : s.applyJudgement c j = u) (hs : (u.record i).state ≠ .retiring) (hd : u.dcd = s.dcd) :
    exec (.blockJudged o) s = .next u.settled := by
  have hend : u.endContext c.exchange = { u with context := none } :=
    State.endContext_of_not_retiring u _ fun k hk => Option.some.inj (hi.symm.trans hk) ▸ hs
  rw [exec_blockJudged h, State.replyJudged, hu, hend]
  exact congrArg _ (enterSettling_eq_settled (hd.trans h.2.1))

theorem judged_ends (h : s.judges o c j) (hi : c.exchange.slot? = some i)
    (hu : s.applyJudgement c j = u.noted i a r) (hs : r.state ≠ .retiring) (hd : u.dcd = s.dcd) :
    exec (.blockJudged o) s = .next (u.noted i a r).settled :=
  judged_settles h hi hu (by rw [State.record_noted_same]; exact hs) hd

/-- A reply whose outcome leaves a RETIRING record, without a reason. -/
theorem judged_ends_of_retiring (h : s.judges o c j) (hi : c.exchange.slot? = some i)
    (hu : s.applyJudgement c j = u.noted i 0 r) (hr : r.reasons = (u.record i).reasons)
    (hs : r.state = .retiring) (hd : u.dcd = s.dcd) :
    exec (.blockJudged o) s =
      .next (u.noted i (if r.inboundCount = 0 then 0x200 else 0) r).settled := by
  rw [exec_blockJudged h, State.replyJudged, hu, endContext_noted_of_retiring hi hr hs]
  exact congrArg _ (enterSettling_eq_settled (u := u.noted i _ r) (hd.trans h.2.1))

end

/-! ### The GOOD step and the quiet watch in closed form (R63, R66, R67) -/

section
variable {s : State} {i : Slot} {a : ReasonSet} {r : Record}

theorem modRecord_eq_noted (s : State) (i : Slot) (f : Record → Record) :
    s.modRecord i f = s.noted i 0 (f (s.record i)) :=
  (s.noted_zero i _).symm

/-- The standing that the GOOD step gives (R63). -/
def Standing.afterGood (h : Standing) : Standing := if h = .suspect then .active else h

theorem goodStep_of_inService {h : Standing} (hs : (s.record i).state = .inService h) :
    s.goodStep i = s.noted i (if h = .suspect then 0x008 else 0)
      { s.record i with missCount := 0, state := .inService h.afterGood } := by
  unfold State.goodStep
  cases h with
  | suspect =>
    simp only [hs]
    rw [modRecord_eq_noted]
    exact noted_raise (a := 0) .recovered rfl rfl
  | staged => simp only [hs]; rw [modRecord_eq_noted]; congr 2
  | active => simp only [hs]; rw [modRecord_eq_noted]; congr 2
  | lost => simp only [hs]; rw [modRecord_eq_noted]; congr 2

theorem goodStep_of_not_inService (hs : (s.record i).state.isInService = false) :
    s.goodStep i = s := by
  unfold State.goodStep
  split
  case h_1 e | h_2 e => simp [e, Lifecycle.isInService] at hs
  all_goals rfl

/-- The quiet count after a NIL (R66). -/
def Record.nextQuiet (r : Record) : Nat :=
  match r.quietLimit with
  | some q => if r.quietCount < q.toNat then r.quietCount + 1 else r.quietCount
  | none => r.quietCount

/-- The reason that a NIL raises (R66). -/
def Record.quietReason (r : Record) : ReasonSet :=
  if r.quietCount < r.nextQuiet ∧ r.quietLimit.map (·.toNat) = some r.nextQuiet then 0x080 else 0

theorem quietStep_of_none (h : (s.record i).quietLimit = none) : s.quietStep i = s := by
  simp only [State.quietStep, h]

theorem quietStep_of_some {q : Octet} (h : (s.record i).quietLimit = some q)
    (hs : (s.record i).state.isInService = true) :
    s.quietStep i =
      if (s.record i).quietCount < q.toNat then
        if (s.record i).quietCount + 1 = q.toNat then
          (s.modRecord i fun x => { x with quietCount := x.quietCount + 1 }).raise i .quiet
        else s.modRecord i fun x => { x with quietCount := x.quietCount + 1 }
      else s := by
  simp only [State.quietStep, h, hs, true_and]

theorem noted_quietStep {h : Standing} (hr : r.reasons = (s.record i).reasons)
    (hs : r.state = .inService h) :
    (s.noted i a r).quietStep i =
      s.noted i (a ||| r.quietReason) { r with quietCount := r.nextQuiet } := by
  have hin : r.state.isInService = true := by rw [hs]; rfl
  have hraise : mayRaise r.state .quiet = true := by rw [hs]; rfl
  obtain hq | ⟨q, hq⟩ := r.quietLimit.eq_none_or_eq_some
  · have hn : r.nextQuiet = r.quietCount := by simp only [Record.nextQuiet, hq]
    have hz : r.quietReason = 0 := by simp [Record.quietReason, hn]
    rw [hn, hz, or_noReason]
    exact quietStep_of_none (by rw [State.record_noted_same]; exact hq)
  · rw [quietStep_of_some (q := q) (by rw [State.record_noted_same]; exact hq)
      (by rw [State.record_noted_same]; exact hin), State.record_noted_same, noted_modRecord _ rfl]
    by_cases hlt : r.quietCount < q.toNat
    · have hn : r.nextQuiet = r.quietCount + 1 := by simp only [Record.nextQuiet, hq, if_pos hlt]
      rw [if_pos hlt]
      by_cases he : r.quietCount + 1 = q.toNat
      · have hz : r.quietReason = 0x080 := by simp [Record.quietReason, hn, hq, he, hlt]
        rw [if_pos he, hn, hz]
        exact noted_raise .quiet (r := { r with quietCount := r.quietCount + 1 }) hr hraise
      · have hz : r.quietReason = 0 := by simp [Record.quietReason, hn, hq, Ne.symm he]
        rw [if_neg he, hn, hz, or_noReason]
    · have hn : r.nextQuiet = r.quietCount := by simp only [Record.nextQuiet, hq, if_neg hlt]
      have hz : r.quietReason = 0 := by simp [Record.quietReason, hn]
      rw [if_neg hlt, hn, hz, or_noReason]

theorem noted_quietReset (hs : r.state.isInService = true) :
    (s.noted i a r).quietReset i = s.noted i a { r with quietCount := 0 } := by
  unfold State.quietReset
  rw [State.record_noted_same, if_pos hs, noted_modRecord _ rfl]

theorem quietReset_of_not_inService (hs : (s.record i).state.isInService = false) :
    s.quietReset i = s := by
  simp [State.quietReset, hs]

theorem noted_storeInbound (ad : Octet) (x : List Octet) :
    (s.noted i a r).storeInbound i ad x =
      State.noted { s with inbound := s.inbound ++ [{ slot := i, address := ad, text := x }] } i a
        { r with
          inToggle := !r.inToggle, receivedCount := r.receivedCount + 1
          inboundCount := r.inboundCount + 1 } := by
  unfold State.storeInbound
  rw [noted_modRecord _ rfl]
  rfl

end

/-! ### The effect of a reply to a POLL (R66, R67) -/

section
variable {s : State} {c : Context} {i : Slot} {ctl : Octet} {text : List Octet}

theorem applyJudgement_nil (hx : c.exchange = .poll i) :
    s.applyJudgement c (.good 0xA1 c.address ctl text) = s.goodNil i := by
  simp [State.applyJudgement, State.applyGood, hx, kindNil]

theorem applyJudgement_text (hx : c.exchange = .poll i) :
    s.applyJudgement c (.good 0xA2 c.address ctl text) =
      s.goodText i c.address c.hSent (ctl.getLsbD 0) text := by
  simp [State.applyJudgement, State.applyGood, hx, kindNil, kindText]

theorem goodNil_of_inService {h : Standing} (hs : (s.record i).state = .inService h) :
    s.goodNil i = s.noted i ((if h = .suspect then 0x008 else 0) ||| (s.record i).quietReason)
      { s.record i with
        missCount := 0, state := .inService h.afterGood
        quietCount := (s.record i).nextQuiet } := by
  rw [State.goodNil, goodStep_of_inService hs]
  exact noted_quietStep rfl rfl

theorem goodNil_of_not_inService (hs : (s.record i).state.isInService = false) :
    s.goodNil i = s := by
  rw [State.goodNil, goodStep_of_not_inService hs]
  unfold State.quietStep
  simp only [hs, Bool.false_eq_true, false_and, if_false]
  split <;> rfl

/-- What a text reply does to a record in service before the text is judged (R63, R67). -/
theorem goodStep_quietReset {h : Standing} (hs : (s.record i).state = .inService h) :
    (s.goodStep i).quietReset i = s.noted i (if h = .suspect then 0x008 else 0)
      { s.record i with missCount := 0, state := .inService h.afterGood, quietCount := 0 } := by
  rw [goodStep_of_inService hs]
  exact noted_quietReset rfl

theorem goodStep_quietReset_of_held {h : Standing} (hs : (s.record i).state = .held h) :
    (s.goodStep i).quietReset i = s := by
  have hn : (s.record i).state.isInService = false := by rw [hs]; rfl
  rw [goodStep_of_not_inService hn, quietReset_of_not_inService hn]

theorem goodText_of_hSent (ad : Octet) (q : Bool) (hs : (s.record i).state ≠ .retiring) :
    s.goodText i ad true q text = ((s.goodStep i).quietReset i).raise i .protocol := by
  simp [State.goodText, hs]

theorem goodText_of_expected (ad : Octet) (hs : (s.record i).state ≠ .retiring) :
    s.goodText i ad false (s.record i).inToggle text =
      ((s.goodStep i).quietReset i).storeInbound i ad text := by
  simp [State.goodText, hs]

theorem goodText_of_duplicate (ad : Octet) (q : Bool) (hs : (s.record i).state ≠ .retiring)
    (hq : q ≠ (s.record i).inToggle) :
    s.goodText i ad false q text = (s.goodStep i).quietReset i := by
  simp [State.goodText, hs, hq]

theorem goodText_of_retiring (ad : Octet) (h q : Bool) (hs : (s.record i).state = .retiring) :
    s.goodText i ad h q text = s := by
  simp [State.goodText, hs]

end

/-- Settles O56: each reply by the record's state, its outcome in closed form. -/
theorem pollRepliesAreApplied : Obligations.PollRepliesAreApplied := by
  unfold Obligations.PollRepliesAreApplied
  intro s o ctl text c i hx r silent spoken ends stored taken
  have hi : c.exchange.slot? = some i := by rw [hx]; rfl
  have hnil (t : State) := applyJudgement_nil (s := t) (ctl := ctl) (text := text) hx
  have htext (t : State) := applyJudgement_text (s := t) (ctl := ctl) (text := text) hx
  refine ⟨fun h hs => ?_, fun h hs => ?_, fun hs hj => ?_⟩
  · intro good recovered
    have hr : (s.record i).state ≠ .retiring := by rw [hs]; simp
    refine ⟨fun hj => ?_, fun hj => ⟨fun hh => ?_, fun hh hb => ?_, fun hh hb => ?_⟩⟩
    · exact judged_ends hj hi ((hnil s).trans (goodNil_of_inService hs)) (by simp) rfl
    · refine judged_ends hj hi ?_ (by simp) rfl
      rw [htext, hh, goodText_of_hSent _ _ hr, goodStep_quietReset hs]
      exact noted_raise .protocol rfl rfl
    · refine judged_ends hj hi ?_ (by simp) rfl
      rw [htext, hh, hb, goodText_of_expected _ hr, goodStep_quietReset hs]
      exact noted_storeInbound _ _
    · refine judged_ends hj hi ?_ (by simp) rfl
      rw [htext, hh, goodText_of_duplicate _ _ hr hb]
      exact goodStep_quietReset hs
  · have hr : (s.record i).state ≠ .retiring := by rw [hs]; simp
    have hn : (s.record i).state.isInService = false := by rw [hs]; rfl
    refine ⟨fun hj => ?_, fun hj => ⟨fun hh hb => ?_, fun hhb => ?_⟩⟩
    · exact judged_settles hj hi ((hnil s).trans (goodNil_of_not_inService hn)) hr rfl
    · refine judged_settles (u := stored.setRecord i (taken r)) hj hi ?_
        (by rw [State.record_setRecord_same]; exact hr) rfl
      rw [htext, hh, hb, goodText_of_expected _ hr, goodStep_quietReset_of_held hs]
      rfl
    · refine judged_settles hj hi ?_ hr rfl
      rw [htext]
      cases hh : c.hSent with
      | true =>
        rw [goodText_of_hSent _ _ hr, goodStep_quietReset_of_held hs,
          State.raise_of_not_mayRaise _ _ _ (by rw [hs]; rfl)]
      | false =>
        rw [goodText_of_duplicate _ _ hr (hhb.resolve_left (by simp [hh])),
          goodStep_quietReset_of_held hs]
  · have hn : (s.record i).state.isInService = false := by rw [hs]; rfl
    obtain hj | hj := hj
    · refine judged_ends_of_retiring hj hi ?_ rfl hs rfl
      rw [hnil, goodNil_of_not_inService hn, ← s.eq_noted]
    · refine judged_ends_of_retiring hj hi ?_ rfl hs rfl
      rw [htext, goodText_of_retiring _ _ _ hs, ← s.eq_noted]

end Sys2Proof.Machine
end

section
namespace Sys2Proof.Machine

/-! ### The effect of a STATUS reply to a SYNC (R72) -/

section
variable {s : State} {c : Context} {i : Slot} {ctl v : Octet} {a : ReasonSet} {r : Record}

theorem applyJudgement_status (hx : c.exchange = .sync i) :
    s.applyJudgement c (.good 0xA5 c.address ctl [v]) = s.goodStatus i v := by
  simp [State.applyJudgement, State.applyGood, hx, kindStatus]

/-- STATUS is raised where the octet is new and the record's state allows it (R62, R72). -/
theorem noted_setLastStatus (hr : r.reasons = (s.record i).reasons) :
    (s.noted i a r).setLastStatus i v =
      s.noted i
        (a ||| if r.lastStatus = some v ∨ mayRaise r.state .status = false then 0 else 0x040)
        { r with lastStatus := some v } := by
  unfold State.setLastStatus
  rw [State.record_noted_same, noted_modRecord _ rfl]
  by_cases hv : r.lastStatus = some v
  · rw [if_pos hv, if_pos (.inl hv), or_noReason]
  · rw [if_neg hv]
    cases hm : mayRaise r.state .status with
    | true =>
      rw [if_neg (by simp [hv])]
      exact noted_raise .status (r := { r with lastStatus := some v }) hr hm
    | false =>
      rw [if_pos (.inr rfl), or_noReason]
      exact noted_raise_of_not_mayRaise (r := { r with lastStatus := some v }) .status hm

/-- The record after a STATUS reply, its standing aside (R71, R72). -/
def Record.synced (r : Record) (v : Octet) : Record :=
  { r with outToggle := false, inToggle := false, resyncPending := false, lastStatus := some v }

/-- What a STATUS reply does in every state of the record (R72). -/
def State.statusTaken (s : State) (i : Slot) (v : Octet) : State :=
  ((s.goodStep i).modRecord i fun r =>
    { r with outToggle := false, inToggle := false, resyncPending := false }).setLastStatus i v

theorem statusTaken_of_inService {h : Standing} (hs : (s.record i).state = .inService h) :
    s.statusTaken i v = s.noted i
      ((if h = .suspect then 0x008 else 0) |||
        if (s.record i).lastStatus = some v then 0 else 0x040)
      { (s.record i).synced v with missCount := 0, state := .inService h.afterGood } := by
  unfold State.statusTaken
  rw [goodStep_of_inService hs, noted_modRecord _ rfl, noted_setLastStatus (by rfl)]
  simp only [mayRaise, Record.synced]
  congr 2
  simp

theorem statusTaken_of_not_inService (hs : (s.record i).state.isInService = false)
    (hm : mayRaise (s.record i).state .status = false) :
    s.statusTaken i v = s.noted i 0 ((s.record i).synced v) := by
  unfold State.statusTaken
  rw [goodStep_of_not_inService hs, modRecord_eq_noted, noted_setLastStatus (by rfl), if_pos (.inr hm)]
  rfl

theorem goodStatus_eq (s : State) (i : Slot) (v : Octet) :
    s.goodStatus i v =
      if (s.record i).state = .inService .staged then
        ((s.statusTaken i v).modRecord i fun r => { r with state := .inService .active }).raise i
          .admitted
      else if (s.record i).state = .inService .lost then
        ((s.statusTaken i v).modRecord i fun r => { r with state := .inService .active }).raise i
          .recovered
      else s.statusTaken i v := by
  unfold State.goodStatus State.statusTaken
  split
  case h_1 e | h_2 e => simp [e]
  all_goals next e => simp [e]

/-- The reason of the standing that a STATUS reply moves (R72). -/
def Standing.syncReason : Standing → ReasonSet
  | .staged => 0x001
  | .active => 0
  | .suspect => 0x008
  | .lost => 0x008

theorem goodStatus_of_inService {h : Standing} (hs : (s.record i).state = .inService h) :
    s.goodStatus i v = s.noted i
      ((if (s.record i).lastStatus = some v then 0 else 0x040) ||| h.syncReason)
      { (s.record i).synced v with missCount := 0, state := .inService .active } := by
  rw [goodStatus_eq, statusTaken_of_inService hs, hs]
  generalize hq : (if (s.record i).lastStatus = some v then 0 else 0x040 : ReasonSet) = q
  cases h with
  | staged =>
    rw [if_pos rfl, noted_modRecord _ rfl]
    rw [noted_raise .admitted (by rfl) (by rfl), if_neg (by simp), noReason_or]
    rfl
  | active =>
    rw [if_neg (by simp), if_neg (by simp), if_neg (by simp), noReason_or]
    show _ = s.noted i (q ||| 0) _
    rw [or_noReason]
    rfl
  | suspect =>
    rw [if_neg (by simp), if_neg (by simp), if_pos rfl, BitVec.or_comm]
    rfl
  | lost =>
    rw [if_neg (by simp), if_pos rfl, noted_modRecord _ rfl]
    rw [noted_raise .recovered (by rfl) (by rfl), if_neg (by simp), noReason_or]
    rfl

theorem goodStatus_of_not_inService (hs : (s.record i).state.isInService = false)
    (hm : mayRaise (s.record i).state .status = false) :
    s.goodStatus i v = s.noted i 0 ((s.record i).synced v) := by
  rw [goodStatus_eq, if_neg (fun e => by rw [e] at hs; cases hs),
    if_neg (fun e => by rw [e] at hs; cases hs), statusTaken_of_not_inService hs hm]

end

/-- Settles O58: by the state of the record, the outcome in closed form. -/
theorem statusReplyResynchronises : Obligations.StatusReplyResynchronises := by
  unfold Obligations.StatusReplyResynchronises
  intro s o ctl v c i hx hj r ends synced
  have hi : c.exchange.slot? = some i := by rw [hx]; rfl
  have hap := applyJudgement_status (s := s) (ctl := ctl) (v := v) hx
  refine ⟨fun h hs => ?_, fun h hs => ?_, fun hs => ?_⟩
  · have := judged_ends hj hi (hap.trans (goodStatus_of_inService hs)) (by simp) rfl
    cases h <;> exact this
  · have hg := goodStatus_of_not_inService (v := v) (by rw [hs]; rfl) (by rw [hs]; rfl)
    have := judged_ends hj hi (hap.trans hg) (by rw [Record.synced, hs]; simp) rfl
    rw [State.noted_zero] at this
    exact this
  · have hg := goodStatus_of_not_inService (v := v) (by rw [hs]; rfl) (by rw [hs]; rfl)
    exact judged_ends_of_retiring hj hi (hap.trans hg) rfl hs rfl

end Sys2Proof.Machine
end

section
namespace Sys2Proof.Machine

/-! ### The events of a miss (R61, R128, R140, R141) -/

section
variable {s u : State} {c : Context} {i : Slot} {e : Instr} {extra a : ReasonSet}
  {finish : State → State} {x : Exchange} {r : Record}

/-- The same state with the levels that a fall of DCD leaves (R133). -/
def State.sensing (s : State) (dcd change : Bool) : State := { s with dcd := dcd, lineChange := change }

/-- The reason raised beside a miss (R61). -/
def State.missNoticed (s : State) (i : Slot) (extra : ReasonSet) : State :=
  if extra = 0 then s else s.raise i .protocol

/-- A miss with its context ended: what each of its events does before the engine moves on. -/
def State.missEnded (s : State) (i : Slot) (extra : ReasonSet) (x : Exchange) : State :=
  ((s.missNoticed i extra).applyMiss x).endContext x

theorem MissEvent.extra_cases (h : MissEvent s c e extra finish) : extra = 0 ∨ extra = 0x100 := by
  cases h <;> simp

theorem MissEvent.context (h : MissEvent s c e extra finish) : s.context = some c := by
  cases h with
  | badBlock h => exact h.2.2.2.1
  | otherAddress h _ => exact h.2.2.2.1
  | unexpectedKind h _ => exact h.2.2.2.1
  | carrierLost _ _ hc => exact hc
  | noReply _ _ hc => exact hc

theorem applyGood_of_otherAddress {k ad ctl : Octet} {t : List Octet} (h : ad ≠ c.address) :
    s.applyGood c k ad ctl t = s.applyMiss c.exchange := by
  simp [State.applyGood, h]

theorem applyGood_of_unexpectedKind {k ctl : Octet} {t : List Octet}
    (hi : c.exchange.slot? = some i) (hk : k ∉ c.exchange.expects) :
    s.applyGood c k c.address ctl t = (s.raise i .protocol).applyMiss c.exchange := by
  have hu : s.unexpectedKind c.exchange = (s.raise i .protocol).applyMiss c.exchange := by
    simp only [State.unexpectedKind, hi]
  rw [← hu]
  unfold State.applyGood
  cases hx : c.exchange with
  | poll j =>
    have hk : k ≠ kindNil ∧ k ≠ kindText := by
      simpa [hx, Exchange.expects, kindNil, kindText] using hk
    simp only [ne_eq, not_true_eq_false, if_false, if_neg hk.1, if_neg hk.2]
  | text j b =>
    have hk : k ≠ kindAck ∧ k ≠ kindNak := by
      simpa [hx, Exchange.expects, kindAck, kindNak] using hk
    simp only [ne_eq, not_true_eq_false, if_false, if_neg hk.1, if_neg hk.2]
  | sync j =>
    have hk : k ≠ kindStatus := by simpa [hx, Exchange.expects, kindStatus] using hk
    simp only [ne_eq, not_true_eq_false, if_false, if_neg hk]
  | group b => rw [hx] at hi; cases hi

theorem missEnded_of_noReason : s.missEnded i 0 x = (s.applyMiss x).endContext x := rfl

theorem missEnded_of_protocol :
    s.missEnded i 0x100 x = ((s.raise i .protocol).applyMiss x).endContext x := rfl

theorem missExchange_of_context (hc : s.context = some c) :
    s.missExchange = (s.applyMiss c.exchange).endContext c.exchange := by
  simp only [State.missExchange, hc]

/-- Each event of a miss ends the exchange with the miss applied, and then finishes: it is enough to know the miss at
every level of DCD and of the line change flag. -/
theorem MissEvent.ends (h : MissEvent s c e extra finish) (hi : c.exchange.slot? = some i)
    (hmiss : ∀ d l, (s.sensing d l).missEnded i extra c.exchange =
      { u.sensing d l with context := none })
    (hd : u.dcd = s.dcd) (hl : u.lineChange = s.lineChange) :
    exec e s = .next (finish u) := by
  have hsame : u.sensing s.dcd s.lineChange = u := by rw [← hd, ← hl]; rfl
  have hs : s.missEnded i extra c.exchange = { u with context := none } :=
    (hmiss s.dcd s.lineChange).trans (by rw [hsame])
  cases h with
  | badBlock h =>
    rw [missEnded_of_noReason] at hs
    rw [exec_blockJudged h, State.replyJudged, State.applyJudgement, hs]
    exact congrArg _ (enterSettling_eq_settled (hd.trans h.2.1))
  | otherAddress h ha =>
    rw [missEnded_of_noReason] at hs
    rw [exec_blockJudged h, State.replyJudged, State.applyJudgement, applyGood_of_otherAddress ha, hs]
    exact congrArg _ (enterSettling_eq_settled (hd.trans h.2.1))
  | unexpectedKind h hk =>
    rw [missEnded_of_protocol] at hs
    rw [exec_blockJudged h, State.replyJudged, State.applyJudgement,
      applyGood_of_unexpectedKind hi hk, hs]
    exact congrArg _ (enterSettling_eq_settled (hd.trans h.2.1))
  | carrierLost he hdcd hc =>
    have hm : (s.sensing false true).missExchange =
        { u.sensing false true with context := none } :=
      (missExchange_of_context (s := s.sensing false true) hc).trans (hmiss false true)
    have hx : exec (.dcdChange false) s =
        .next ((s.sensing false true).missExchange.enterSettling) := by
      show Host.Outcome.next (if false = s.dcd then s else s.dcdChanged false) = _
      rw [if_neg (by simp [hdcd])]
      simp only [State.dcdChanged, he]
      simp [State.noteLineChange, he, State.sensing]
    rw [hx, hm]
    rfl
  | noReply he ht hc =>
    show Host.Outcome.next s.replyTimerExpiry = _
    simp only [State.replyTimerExpiry, ht, he, if_true]
    rw [missExchange_of_context hc, ← missEnded_of_noReason (i := i), hs]

end

end Sys2Proof.Machine
end

section
namespace Sys2Proof.Machine

/-! ### The miss step in closed form (R61, R64, R65) -/

section
variable {s : State} {i : Slot} {a extra : ReasonSet} {r : Record} {h : Standing} {b : BufferNo}

theorem missNoticed_of_inService (he : extra = 0 ∨ extra = 0x100)
    (hs : (s.record i).state = .inService h) :
    s.missNoticed i extra = s.noted i extra (s.record i) := by
  obtain rfl | rfl := he
  · exact s.eq_noted i
  · exact State.raise_eq_noted s i .protocol (by rw [hs]; rfl)

theorem missNoticed_of_not_inService (hs : (s.record i).state.isInService = false)  :
    s.missNoticed i extra = s := by
  unfold State.missNoticed
  split
  · rfl
  · refine State.raise_of_not_mayRaise s i .protocol ?_
    cases e : (s.record i).state <;> simp_all [mayRaise, Lifecycle.isInService]

theorem noted_missCounted :
    (s.noted i a r).missCounted i = s.noted i a { r with missCount := countMiss r.missCount } :=
  noted_modRecord _ rfl

/-- A miss below the thresholds, or of a LOST record, is counted; at the suspect threshold ACTIVE becomes SUSPECT (R64). -/
theorem noted_missStep_of_stays (hr : r.reasons = (s.record i).reasons)
    (hs : r.state = .inService h)
    (hn : h = .lost ∨ countMiss r.missCount < s.params.lostThreshold.toNat) :
    (s.noted i a r).missStep i = s.noted i
      (a ||| if h = .active ∧ s.params.suspectThreshold.toNat ≤ countMiss r.missCount
        then 0x002 else 0)
      { r with
        missCount := countMiss r.missCount
        state := .inService
          (if h = .active ∧ s.params.suspectThreshold.toNat ≤ countMiss r.missCount
            then .suspect else h) } := by
  have hnot : ¬ (h ≠ .lost ∧ s.params.lostThreshold.toNat ≤ countMiss r.missCount) := by
    rintro ⟨h1, h2⟩
    exact hn.elim h1 (fun h3 => absurd h2 (Nat.not_le.mpr h3))
  rw [State.missStep_of_inService _ i h (by rw [State.record_noted_same]; exact hs),
    State.record_noted_same, noted_missCounted]
  refine (if_neg hnot).trans ?_
  by_cases hsus : h = .active ∧ s.params.suspectThreshold.toNat ≤ countMiss r.missCount
  · rw [if_pos hsus, if_pos hsus]
    refine (if_pos hsus).trans ?_
    rw [noted_modRecord _ rfl]
    exact noted_raise .suspect (by exact hr) rfl
  · rw [if_neg hsus, if_neg hsus, or_noReason]
    refine (if_neg hsus).trans ?_
    rw [← hs]

/-- Entry into LOST of a record without a text (R65). -/
theorem noted_enterLost_of_none (hb : r.outboundText = none) :
    (s.noted i a r).enterLost i =
      s.noted i a { r with state := .inService .lost, resyncPending := false } := by
  unfold State.enterLost
  rw [State.record_noted_same, if_neg (by simp [hb]), noted_modRecord _ rfl]

/-- Entry into LOST fails the pending text (R65). -/
theorem noted_enterLost_of_some (hr : r.reasons = (s.record i).reasons)
    (hb : r.outboundText = some b) :
    (s.noted i a r).enterLost i = (s.bufferFreed b).noted i (a ||| 0x020)
      { r.textFreed with
        state := .inService .lost, resyncPending := false, failureCause := .lost } := by
  unfold State.enterLost
  rw [State.record_noted_same, if_pos (by simp [hb]), noted_modRecord _ rfl]
  exact noted_failText b .lost hb hr rfl

/-- The reason of an entry into LOST: none from STAGED (R65). -/
def Standing.lostReason (h : Standing) : ReasonSet := if h = .staged then 0 else 0x004

theorem noted_raise_lost (hr : r.reasons = (s.record i).reasons) (hs : r.state = .inService .lost) :
    (if h = .staged then s.noted i a r else (s.noted i a r).raise i .lost) =
      s.noted i (a ||| h.lostReason) r := by
  unfold Standing.lostReason
  split
  · rw [or_noReason]
  · exact noted_raise .lost hr (by rw [hs]; rfl)

theorem noted_missStep_eq_enterLost (hs : r.state = .inService h) (hl : h ≠ .lost)
    (hn : s.params.lostThreshold.toNat ≤ countMiss r.missCount) :
    (s.noted i a r).missStep i =
      if h = .staged then
        (s.noted i a { r with missCount := countMiss r.missCount }).enterLost i
      else
        ((s.noted i a { r with missCount := countMiss r.missCount }).enterLost i).raise i .lost := by
  rw [State.missStep_of_inService _ i h (by rw [State.record_noted_same]; exact hs),
    State.record_noted_same, noted_missCounted]
  exact if_pos ⟨hl, hn⟩

theorem noted_missStep_of_lost_none (hr : r.reasons = (s.record i).reasons)
    (hs : r.state = .inService h) (hl : h ≠ .lost)
    (hn : s.params.lostThreshold.toNat ≤ countMiss r.missCount) (hb : r.outboundText = none) :
    (s.noted i a r).missStep i = s.noted i (a ||| h.lostReason)
      { r with
        missCount := countMiss r.missCount, state := .inService .lost, resyncPending := false } := by
  rw [noted_missStep_eq_enterLost hs hl hn, noted_enterLost_of_none (by exact hb)]
  exact noted_raise_lost hr rfl

/-- A miss that loses the station fails its pending text (R65). -/
theorem noted_missStep_of_lost_some (hr : r.reasons = (s.record i).reasons)
    (hs : r.state = .inService h) (hl : h ≠ .lost)
    (hn : s.params.lostThreshold.toNat ≤ countMiss r.missCount) (hb : r.outboundText = some b) :
    (s.noted i a r).missStep i = (s.bufferFreed b).noted i (a ||| h.lostReason ||| 0x020)
      { r.textFreed with
        missCount := countMiss r.missCount, state := .inService .lost, resyncPending := false
        failureCause := .lost } := by
  rw [noted_missStep_eq_enterLost hs hl hn, noted_enterLost_of_some (by exact hr) (by exact hb),
    noted_raise_lost (by exact hr) (by rfl)]
  congr 1
  rw [BitVec.or_assoc, BitVec.or_comm 0x020, ← BitVec.or_assoc]

end

/-! ### A miss with its context ended -/

section
variable {s v : State} {i : Slot} {a extra : ReasonSet} {r : Record} {x : Exchange}

theorem missEnded_of_outcome (hi : x.slot? = some i)
    (hu : (s.missNoticed i extra).applyMiss x = v.noted i a r) (hs : r.state ≠ .retiring) :
    s.missEnded i extra x = { v.noted i a r with context := none } := by
  rw [State.missEnded, hu, endContext_noted hi hs]

theorem missEnded_of_retiring (hi : x.slot? = some i)
    (hu : (s.missNoticed i extra).applyMiss x = v.noted i 0 r)
    (hr : r.reasons = (v.record i).reasons) (hs : r.state = .retiring) :
    s.missEnded i extra x =
      { v.noted i (if r.inboundCount = 0 then 0x200 else 0) r with context := none } := by
  rw [State.missEnded, hu, endContext_noted_of_retiring hi hr hs]

theorem missEnded_of_same (hi : x.slot? = some i) (hu : (s.missNoticed i extra).applyMiss x = s)
    (hs : (s.record i).state ≠ .retiring) : s.missEnded i extra x = { s with context := none } := by
  rw [State.missEnded, hu]
  exact State.endContext_of_not_retiring s x fun k hk => Option.some.inj (hi.symm.trans hk) ▸ hs

theorem applyMiss_of_poll_sync (hx : x = .poll i ∨ x = .sync i) :
    s.applyMiss x = s.missStep i := by
  obtain rfl | rfl := hx <;> rfl

end

/-- Settles O59: the miss step by the two thresholds, at every event of a miss. -/
theorem missesMoveTheStanding : Obligations.MissesMoveTheStanding := by
  unfold Obligations.MissesMoveTheStanding
  intro s c e extra finish i hx hm r n ends
  have hi : c.exchange.slot? = some i := by obtain hx | hx := hx <;> rw [hx] <;> rfl
  have hmiss (t : State) : t.applyMiss c.exchange = t.missStep i := applyMiss_of_poll_sync hx
  refine ⟨fun h hs => ⟨fun hn => ?_, fun hl hn => ⟨fun hb => ?_, fun b hb => ?_⟩⟩, fun h hs => ?_,
    fun hs => ?_⟩
  · refine hm.ends hi (fun d l => missEnded_of_outcome (v := s.sensing d l) hi ?_ ?_) rfl rfl
    · rw [missNoticed_of_inService (s := s.sensing d l) hm.extra_cases hs, hmiss]
      exact noted_missStep_of_stays rfl hs hn
    · simp
  · refine hm.ends hi (fun d l => missEnded_of_outcome (v := s.sensing d l) hi ?_ ?_) rfl rfl
    · rw [missNoticed_of_inService (s := s.sensing d l) hm.extra_cases hs, hmiss]
      exact noted_missStep_of_lost_none rfl hs hl hn hb
    · simp
  · refine hm.ends hi (fun d l => missEnded_of_outcome (v := (s.sensing d l).bufferFreed b) hi ?_ ?_)
      rfl rfl
    · rw [missNoticed_of_inService (s := s.sensing d l) hm.extra_cases hs, hmiss]
      exact noted_missStep_of_lost_some rfl hs hl hn hb
    · simp
  · have hn : (s.record i).state.isInService = false := by rw [hs]; rfl
    refine hm.ends hi (fun d l => missEnded_of_same (s := s.sensing d l) hi ?_ ?_) rfl rfl
    · rw [missNoticed_of_not_inService (s := s.sensing d l) hn, hmiss]
      exact State.missStep_of_not_inService _ i hn
    · show (s.record i).state ≠ .retiring
      rw [hs]; simp
  · have hn : (s.record i).state.isInService = false := by rw [hs]; rfl
    refine hm.ends hi (fun d l => missEnded_of_retiring (v := s.sensing d l) hi ?_ rfl hs) rfl rfl
    rw [missNoticed_of_not_inService (s := s.sensing d l) hn, hmiss,
      State.missStep_of_not_inService (s.sensing d l) i hn]
    exact (s.sensing d l).eq_noted i

end Sys2Proof.Machine
end

section
namespace Sys2Proof.Machine

/-! ### A text retried or failed (R70), and the miss of a TEXT -/

section
variable {s : State} {i o : Slot} {a : ReasonSet} {r : Record} {h : Standing} {b : BufferNo}
  {t : List Octet}

/-- Step 2 of a TEXT miss where the text has had its retries, or its cancel was requested (R70). -/
theorem noted_retryText_of_fails (hr : r.reasons = (s.record i).reasons)
    (hb : r.outboundText = some b) (hw : mayRaise r.state .failed = true)
    (hf : r.cancelRequested = true ∨ s.params.retryLimit.toNat ≤ r.retryCount + 1) :
    (s.noted i a r).retryText i = (s.bufferFreed b).noted i (a ||| 0x020)
      { r.textFreed with
        resyncPending := true
        failureCause := if r.cancelRequested then .cancelled else .retries } := by
  have hfail (w : FailureCause) : ((s.noted i a r).failText i w).setResync i =
      (s.bufferFreed b).noted i (a ||| 0x020)
        { r.textFreed with resyncPending := true, failureCause := w } := by
    rw [noted_failText b w hb hr hw, State.setResync, noted_modRecord _ rfl]
  rw [retryText_eq, State.record_noted_same, hfail, hfail]
  by_cases hc : r.cancelRequested = true
  · exact (if_pos hc).trans (by rw [if_pos hc])
  · exact (if_neg hc).trans ((if_pos (hf.resolve_left hc)).trans (by rw [if_neg hc]))

/-- Step 2 of a TEXT miss where the text is returned (R70). -/
theorem noted_retryText_of_returns (hb : r.outboundText = some b)
    (ht : s.buffers[b.val] = .inFlight o t) (hc : r.cancelRequested = false)
    (hl : r.retryCount + 1 < s.params.retryLimit.toNat) :
    (s.noted i a r).retryText i =
      { s with buffers := s.buffers.set b.val (.filled o t) }.noted i a
        { r with retryCount := r.retryCount + 1 } := by
  rw [retryText_eq, State.record_noted_same]
  refine (if_neg (by simp [hc])).trans ((if_neg (Nat.not_le.mpr hl)).trans ?_)
  rw [State.countRetry, noted_modRecord _ rfl]
  exact noted_returnText (r := { r with retryCount := r.retryCount + 1 }) b o t hb ht

theorem missText_of_retiring (hs : (s.record i).state = .retiring) :
    s.missText i = s.freeText i := by
  simp [State.missText, hs]

/-- A TEXT miss that leaves the record as it was, or LOST as it was, retries the text (R70). -/
theorem missText_of_retries (hs : (s.record i).state ≠ .retiring)
    (hl : ((s.missStep i).record i).state = .inService .lost → (s.record i).state = .inService .lost) :
    s.missText i = (s.missStep i).retryText i := by
  unfold State.missText
  rw [if_neg hs]
  exact if_neg fun ⟨h1, h2⟩ => h2 (hl h1)

/-- A TEXT miss that makes the record LOST ends there: the text has failed (R65, R70). -/
theorem missText_of_lost (hs : (s.record i).state ≠ .retiring)
    (hl : ((s.missStep i).record i).state = .inService .lost)
    (hn : (s.record i).state ≠ .inService .lost) : s.missText i = s.missStep i := by
  unfold State.missText
  rw [if_neg hs]
  exact if_pos ⟨hl, hn⟩

/-- A TEXT miss that does not lose the station moves its standing and goes on to step 2 (R64, R70). -/
theorem noted_missText_of_stays (hr : r.reasons = (s.record i).reasons)
    (hs : r.state = .inService h)
    (hn : h = .lost ∨ countMiss r.missCount < s.params.lostThreshold.toNat) :
    (s.noted i a r).missText i =
      (s.noted i
        (a ||| if h = .active ∧ s.params.suspectThreshold.toNat ≤ countMiss r.missCount
          then 0x002 else 0)
        { r with
          missCount := countMiss r.missCount
          state := .inService
            (if h = .active ∧ s.params.suspectThreshold.toNat ≤ countMiss r.missCount
              then .suspect else h) }).retryText i := by
  have hstep := noted_missStep_of_stays (a := a) hr hs hn
  rw [missText_of_retries, hstep]
  · rw [State.record_noted_same]; simp [hs]
  · rw [hstep, State.record_noted_same, State.record_noted_same]
    intro hl
    rw [hs]
    by_cases hsus : h = .active ∧ s.params.suspectThreshold.toNat ≤ countMiss r.missCount
    · simp [hsus] at hl
    · simpa [hsus] using hl

theorem noted_missText_of_lost (hr : r.reasons = (s.record i).reasons)
    (hs : r.state = .inService h) (hl : h ≠ .lost)
    (hn : s.params.lostThreshold.toNat ≤ countMiss r.missCount) (hb : r.outboundText = some b) :
    (s.noted i a r).missText i = (s.bufferFreed b).noted i (a ||| h.lostReason ||| 0x020)
      { r.textFreed with
        missCount := countMiss r.missCount, state := .inService .lost, resyncPending := false
        failureCause := .lost } := by
  have hstep := noted_missStep_of_lost_some (a := a) hr hs hl hn hb
  rw [missText_of_lost, hstep]
  · rw [State.record_noted_same]; simp [hs]
  · rw [hstep, State.record_noted_same]
  · rw [State.record_noted_same]; simp [hs, hl]

end

/-! ### The two ends of step 2, at every event of a miss -/

section
variable {s : State} {c : Context} {i o : Slot} {e : Instr} {extra a : ReasonSet}
  {finish : State → State} {r : Record} {b : BufferNo} {t : List Octet}

/-- The buffers as the return of a text leaves them (R62). -/
def State.bufferReturned (s : State) (b : BufferNo) (o : Slot) (t : List Octet) : State :=
  { s with buffers := s.buffers.set b.val (.filled o t) }

theorem MissEvent.ends_failed (hm : MissEvent s c e extra finish) (hi : c.exchange.slot? = some i)
    (hout : ∀ d l, ((s.sensing d l).missNoticed i extra).applyMiss c.exchange =
      ((s.sensing d l).noted i a r).retryText i)
    (hr : r.reasons = (s.record i).reasons) (hb : r.outboundText = some b)
    (hw : mayRaise r.state .failed = true)
    (hf : r.cancelRequested = true ∨ s.params.retryLimit.toNat ≤ r.retryCount + 1) :
    exec e s = .next (finish ((s.bufferFreed b).noted i (a ||| 0x020)
      { r.textFreed with
        resyncPending := true
        failureCause := if r.cancelRequested then .cancelled else .retries })) := by
  have hne : r.state ≠ .retiring := fun e => by rw [e] at hw; cases hw
  refine hm.ends hi (fun d l => missEnded_of_outcome (v := (s.sensing d l).bufferFreed b) hi ?_ hne)
    rfl rfl
  rw [hout]
  exact noted_retryText_of_fails hr hb hw hf

theorem MissEvent.ends_returned (hm : MissEvent s c e extra finish)
    (hi : c.exchange.slot? = some i)
    (hout : ∀ d l, ((s.sensing d l).missNoticed i extra).applyMiss c.exchange =
      ((s.sensing d l).noted i a r).retryText i)
    (hb : r.outboundText = some b) (ht : s.buffers[b.val] = .inFlight o t)
    (hne : r.state ≠ .retiring) (hc : r.cancelRequested = false)
    (hl : r.retryCount + 1 < s.params.retryLimit.toNat) :
    exec e s = .next (finish ((s.bufferReturned b o t).noted i a
      { r with retryCount := r.retryCount + 1 })) := by
  refine hm.ends hi (fun d l =>
    missEnded_of_outcome (v := (s.sensing d l).bufferReturned b o t) hi ?_ hne) rfl rfl
  rw [hout]
  exact noted_retryText_of_returns hb ht hc hl

end

/-- Settles O60: the miss step, and step 2 unless it made the record LOST. -/
theorem textMissesRetryOrFail : Obligations.TextMissesRetryOrFail := by
  unfold Obligations.TextMissesRetryOrFail
  intro s c e extra finish i o b text hx hb ht hm r n ends retried
  have hi : c.exchange.slot? = some i := by rw [hx]; rfl
  have hmiss (t : State) : t.applyMiss c.exchange = t.missText i := by rw [hx]; rfl
  refine ⟨fun h hs => ⟨fun hn => ?_, fun hl hn => ?_⟩, fun h hs => ?_, fun hs => ?_⟩
  · have hout (d l : Bool) := (congrArg (State.applyMiss · c.exchange)
      (missNoticed_of_inService (s := s.sensing d l) hm.extra_cases hs)).trans
      ((hmiss _).trans (noted_missText_of_stays (s := s.sensing d l) (r := r) rfl hs hn))
    refine ⟨fun hf => ?_, fun hc hl => ?_⟩
    · exact hm.ends_failed hi hout rfl hb rfl hf
    · exact hm.ends_returned hi hout hb ht (fun e => nomatch e) hc hl
  · refine hm.ends hi (fun d l => missEnded_of_outcome (v := (s.sensing d l).bufferFreed b) hi ?_ ?_)
      rfl rfl
    · rw [missNoticed_of_inService (s := s.sensing d l) hm.extra_cases hs, hmiss]
      exact noted_missText_of_lost rfl hs hl hn hb
    · simp
  · have hn : (s.record i).state.isInService = false := by rw [hs]; rfl
    have hne : (s.record i).state ≠ .retiring := by rw [hs]; simp
    have hout (d l : Bool) : ((s.sensing d l).missNoticed i extra).applyMiss c.exchange =
        ((s.sensing d l).noted i 0 r).retryText i := by
      have hstep : (s.sensing d l).missStep i = s.sensing d l :=
        State.missStep_of_not_inService (s.sensing d l) i hn
      rw [missNoticed_of_not_inService (s := s.sensing d l) hn, hmiss,
        missText_of_retries (s := s.sensing d l) hne (by rw [hstep]; exact id), hstep]
      exact congrArg (State.retryText · i) ((s.sensing d l).eq_noted i)
    exact ⟨hm.ends_failed hi hout rfl hb (by rw [hs]; rfl), hm.ends_returned hi hout hb ht hne⟩
  · have hn : (s.record i).state.isInService = false := by rw [hs]; rfl
    refine hm.ends hi (fun d l => missEnded_of_retiring (v := (s.sensing d l).bufferFreed b) hi ?_
      rfl hs) rfl rfl
    rw [missNoticed_of_not_inService (s := s.sensing d l) hn, hmiss,
      missText_of_retiring (s := s.sensing d l) hs, State.freeText_eq_bufferFreed (s.sensing d l) i b hb,
      State.noted_zero]
    rfl

end Sys2Proof.Machine
end

section
namespace Sys2Proof.Machine

/-! ### The effect of a reply to a TEXT (R55, R68, R69, R73) -/

section
variable {s : State} {c : Context} {i o : Slot} {b : BufferNo} {a q : ReasonSet} {r x : Record}
  {k ctl : Octet} {rest t : List Octet}

/-- The record of a station that has answered: ACTIVE if it is visited, and as it was if it is HELD (R63). -/
def Record.answering (r : Record) : Record :=
  if r.state.isVisited then { r with missCount := 0, state := .inService .active } else r

theorem Record.answering_fields (r : Record) :
    r.answering.reasons = r.reasons ∧ r.answering.outboundText = r.outboundText ∧
    r.answering.outToggle = r.outToggle ∧ r.answering.deliveredCount = r.deliveredCount ∧
    r.answering.cancelRequested = r.cancelRequested ∧ r.answering.retryCount = r.retryCount := by
  unfold Record.answering
  split <;> exact ⟨rfl, rfl, rfl, rfl, rfl, rfl⟩

theorem Record.isVisited_answering (r : Record) :
    r.answering.state.isVisited = r.state.isVisited := by
  unfold Record.answering
  split
  · next h => exact h.symm
  · rfl

/-- A station that answers a TEXT takes DELIVERED and FAILED (R62). -/
theorem Record.mayRaise_answering
    (h : r.state.isVisited = true ∨ ∃ st, r.state = .held st) :
    mayRaise r.answering.state .delivered = true ∧ mayRaise r.answering.state .failed = true ∧
      r.answering.state ≠ .retiring := by
  unfold Record.answering
  split
  · exact ⟨rfl, rfl, by simp⟩
  · next hv =>
    obtain ⟨st, hs⟩ := h.resolve_left hv
    rw [hs]
    exact ⟨rfl, rfl, by simp⟩

theorem goodStep_of_answering
    (h : (s.record i).state.isVisited = true ∨ ∃ st, (s.record i).state = .held st) :
    s.goodStep i = s.noted i (if (s.record i).state = .inService .suspect then 0x008 else 0)
      (s.record i).answering := by
  obtain hv | ⟨st, hs⟩ := h
  · have hst : (s.record i).state = .inService .active ∨
        (s.record i).state = .inService .suspect := by
      cases e : (s.record i).state with
      | inService st => cases st <;> simp_all [Lifecycle.isVisited]
      | _ => simp [e, Lifecycle.isVisited] at hv
    rw [Record.answering, if_pos hv]
    obtain hs | hs := hst
    · rw [goodStep_of_inService hs, hs]; simp [Standing.afterGood]
    · rw [goodStep_of_inService hs, hs]; simp [Standing.afterGood]
  · rw [goodStep_of_not_inService (by rw [hs]; rfl), Record.answering, hs]
    exact s.eq_noted i

theorem applyJudgement_ack (hx : c.exchange = .text i b) :
    s.applyJudgement c (.good 0xA3 c.address ctl rest) = s.goodAck i (ctl.getLsbD 1) := by
  simp [State.applyJudgement, State.applyGood, hx, kindAck]

theorem applyJudgement_nak (hx : c.exchange = .text i b) :
    s.applyJudgement c (.good 0xA4 c.address ctl rest) = s.goodNak i := by
  simp [State.applyJudgement, State.applyGood, hx, kindAck, kindNak]

theorem applyJudgement_delivers (hx : c.exchange = .text i b)
    (h : k = 0xA3 ∧ ctl.getLsbD 1 ≠ (s.record i).outToggle) :
    s.applyJudgement c (.good k c.address ctl rest) = (s.deliverText i).setFollowOn i := by
  obtain ⟨rfl, ha⟩ := h
  rw [applyJudgement_ack hx, State.goodAck, if_neg ha]

theorem applyJudgement_refused (hx : c.exchange = .text i b)
    (h : k = 0xA4 ∨ (k = 0xA3 ∧ ctl.getLsbD 1 = (s.record i).outToggle)) :
    s.applyJudgement c (.good k c.address ctl rest) = (s.refusedText i).setFollowOn i := by
  obtain rfl | ⟨rfl, ha⟩ := h
  · rw [applyJudgement_nak hx, State.goodNak]
  · rw [applyJudgement_ack hx, State.goodAck, if_pos ha, State.goodNak]

/-- The follow-on set for a visited record with no stop requested (R55). -/
def State.followed (s : State) (i : Slot) (visited : Bool) : State :=
  { s with followOn := if visited && !s.stopRequested then some i else s.followOn }

theorem noted_setFollowOn {v : Bool} (hv : r.state.isVisited = v) :
    (s.noted i a r).setFollowOn i = (s.followed i v).noted i a r := by
  subst hv
  unfold State.setFollowOn State.followed
  rw [State.record_noted_same]
  by_cases h : r.state.isVisited = true ∧ s.stopRequested = false
  · have hb : (r.state.isVisited && !s.stopRequested) = true := by simp [h]
    refine (if_pos h).trans ?_
    rw [if_pos hb]
    rfl
  · have hb : ¬ (r.state.isVisited && !s.stopRequested) = true := by simpa using h
    refine (if_neg h).trans ?_
    rw [if_neg hb]

theorem deliverText_eq_noted (hg : s.goodStep i = s.noted i q x)
    (hr : x.reasons = (s.record i).reasons) (hb : x.outboundText = some b)
    (hw : mayRaise x.state .delivered = true) :
    s.deliverText i = (s.bufferFreed b).noted i (q ||| 0x010)
      { x.textFreed with outToggle := !x.outToggle, deliveredCount := x.deliveredCount + 1 } := by
  rw [State.deliverText, hg, noted_modRecord _ rfl, noted_freeText b (by exact hb)]
  exact noted_raise .delivered (by exact hr) hw

theorem refusedText_of_cancelled (hs : (s.record i).state ≠ .retiring)
    (hg : s.goodStep i = s.noted i q x) (hr : x.reasons = (s.record i).reasons)
    (hb : x.outboundText = some b) (hw : mayRaise x.state .failed = true)
    (hc : x.cancelRequested = true) :
    s.refusedText i = (s.bufferFreed b).noted i (q ||| 0x020)
      { x.textFreed with failureCause := .cancelled } := by
  rw [refusedText_eq, if_neg hs, hg, State.record_noted_same]
  exact (if_pos hc).trans (noted_failText b _ hb hr hw)

theorem refusedText_of_exhausted (hs : (s.record i).state ≠ .retiring)
    (hg : s.goodStep i = s.noted i q x) (hr : x.reasons = (s.record i).reasons)
    (hb : x.outboundText = some b) (hw : mayRaise x.state .failed = true)
    (hc : x.cancelRequested = false) (hl : s.params.retryLimit.toNat ≤ x.retryCount + 1) :
    s.refusedText i = (s.bufferFreed b).noted i (q ||| 0x020)
      { x.textFreed with failureCause := .retries } := by
  rw [refusedText_eq, if_neg hs, hg, State.record_noted_same]
  exact (if_neg (by simp [hc])).trans ((if_pos hl).trans (noted_failText b _ hb hr hw))

theorem refusedText_of_returned (hs : (s.record i).state ≠ .retiring)
    (hg : s.goodStep i = s.noted i q x) (hb : x.outboundText = some b)
    (ht : s.buffers[b.val] = .inFlight o t) (hc : x.cancelRequested = false)
    (hl : x.retryCount + 1 < s.params.retryLimit.toNat) :
    s.refusedText i = (s.bufferReturned b o t).noted i q { x with retryCount := x.retryCount + 1 } := by
  rw [refusedText_eq, if_neg hs, hg, State.record_noted_same]
  refine (if_neg (by simp [hc])).trans ((if_neg (Nat.not_le.mpr hl)).trans ?_)
  rw [State.countRetry, noted_modRecord _ rfl]
  exact noted_returnText (r := { x with retryCount := x.retryCount + 1 }) b o t hb ht

theorem refusedText_of_retiring (hs : (s.record i).state = .retiring)
    (hb : (s.record i).outboundText = some b) :
    s.refusedText i = (s.bufferFreed b).noted i 0 (s.record i).textFreed := by
  rw [refusedText_eq, if_pos hs, State.freeText_eq_bufferFreed s i b hb, State.noted_zero]

theorem deliverText_of_retiring (hs : (s.record i).state = .retiring)
    (hb : (s.record i).outboundText = some b) :
    s.deliverText i = (s.bufferFreed b).noted i 0
      { (s.record i).textFreed with
        outToggle := !(s.record i).outToggle
        deliveredCount := (s.record i).deliveredCount + 1 } := by
  have hg : s.goodStep i = s.noted i 0 (s.record i) :=
    (goodStep_of_not_inService (by rw [hs]; rfl)).trans (s.eq_noted i)
  rw [State.deliverText, hg, noted_modRecord _ rfl, noted_freeText b (by exact hb)]
  exact noted_raise_of_not_mayRaise .delivered (by rw [Record.textFreed, hs]; rfl)

end

/-- Settles O57: the GOOD step, then the text delivered, failed or returned, then the follow-on. -/
theorem textRepliesAreApplied : Obligations.TextRepliesAreApplied := by
  unfold Obligations.TextRepliesAreApplied
  intro s o k ctl rest text c i d b hx hb ht hj r ends delivers refused delivered
  have hi : c.exchange.slot? = some i := by rw [hx]; rfl
  refine ⟨fun hv => ?_, fun hs => ⟨fun hd => ?_, fun hd => ?_⟩⟩
  · intro visited good recovered u
    obtain ⟨hr, hgb, hto, hdc, hcr, hrc⟩ := r.answering_fields
    obtain ⟨hw, hwf, hne⟩ := r.mayRaise_answering hv
    have hg := goodStep_of_answering (s := s) hv
    have hs : (s.record i).state ≠ .retiring := by
      obtain hv | ⟨st, hv⟩ := hv <;> intro e
      · rw [show r.state = .retiring from e] at hv; cases hv
      · cases e.symm.trans hv
    have hvis := r.isVisited_answering
    refine ⟨fun hd => ?_, fun hd hc => ?_, fun hd hc hl => ?_, fun hd hc hl => ?_⟩
    · refine judged_ends (u := u.bufferFreed b) hj hi ?_ (by exact hne) rfl
      rw [applyJudgement_delivers hx hd, deliverText_eq_noted hg hr (hgb.trans hb) hw,
        noted_setFollowOn (by exact hvis), hto, hdc]
      rfl
    · refine judged_ends (u := u.bufferFreed b) hj hi ?_ (by exact hne) rfl
      rw [applyJudgement_refused hx hd,
        refusedText_of_cancelled hs hg hr (hgb.trans hb) hwf (hcr.trans hc),
        noted_setFollowOn (by exact hvis)]
      rfl
    · refine judged_ends (u := u.bufferFreed b) hj hi ?_ (by exact hne) rfl
      rw [applyJudgement_refused hx hd, refusedText_of_exhausted hs hg hr (hgb.trans hb) hwf
        (hcr.trans hc) (by rw [hrc]; exact hl), noted_setFollowOn (by exact hvis)]
      rfl
    · refine judged_ends (u := u.bufferReturned b d text) hj hi ?_ (by exact hne) rfl
      rw [applyJudgement_refused hx hd, refusedText_of_returned hs hg (hgb.trans hb) ht
        (hcr.trans hc) (by rw [hrc]; exact hl), noted_setFollowOn (by exact hvis), hrc]
      rfl
  · refine judged_ends_of_retiring hj hi ?_ rfl hs rfl
    rw [applyJudgement_delivers hx hd, deliverText_of_retiring hs hb,
      noted_setFollowOn (v := false) (by rw [Record.textFreed, hs]; rfl)]
    rfl
  · refine judged_ends_of_retiring hj hi ?_ rfl hs rfl
    rw [applyJudgement_refused hx hd, refusedText_of_retiring hs hb,
      noted_setFollowOn (v := false) (by rw [Record.textFreed, hs]; rfl)]
    rfl

end Sys2Proof.Machine
end

section
namespace Sys2Proof.Machine

/-! ### An exchange ABANDONED (R22, R52, R62, R75) -/

section
variable {s u : State} {c : Context} {i o : Slot} {b : BufferNo} {a : ReasonSet} {r : Record}
  {t : List Octet} {p : Point}

theorem abandonExchange_of_none (h : s.context = none) : s.abandonExchange = s := by
  simp only [State.abandonExchange, h]

theorem abandonExchange_of_some (h : s.context = some c) :
    s.abandonExchange = (s.applyAbandoned c).endContext c.exchange := by
  simp only [State.abandonExchange, h]

theorem abandonText_of_retiring (hs : (s.record i).state = .retiring)
    (hb : (s.record i).outboundText = some b) :
    s.abandonText i p = (s.bufferFreed b).noted i 0 (s.record i).textFreed := by
  rw [State.abandonText, if_pos hs, State.freeText_eq_bufferFreed s i b hb, State.noted_zero]

/-- The text returned, with resync pending where the block was WHOLLY SENT (R75). -/
theorem returned_resync (hb : (s.record i).outboundText = some b)
    (ht : s.buffers[b.val] = .inFlight o t) :
    (if p = .whollySent then (s.returnText i).setResync i else s.returnText i) =
      (s.bufferReturned b o t).noted i 0
        { s.record i with
          resyncPending := (s.record i).resyncPending || decide (p = .whollySent) } := by
  have hret : s.returnText i = (s.bufferReturned b o t).noted i 0 (s.record i) :=
    (s.returnText_of_inFlight i o b t hb ht).trans ((s.bufferReturned b o t).eq_noted i)
  rw [hret]
  by_cases hp : p = .whollySent
  · rw [if_pos hp, State.setResync, noted_modRecord _ rfl]
    simp [hp]
  · rw [if_neg hp]
    simp [hp]

theorem abandonText_of_uncancelled (hs : (s.record i).state ≠ .retiring)
    (hb : (s.record i).outboundText = some b) (ht : s.buffers[b.val] = .inFlight o t)
    (hc : (s.record i).cancelRequested = false) :
    s.abandonText i p = (s.bufferReturned b o t).noted i 0
      { s.record i with
        resyncPending := (s.record i).resyncPending || decide (p = .whollySent) } := by
  simp only [State.abandonText, if_neg hs, returned_resync hb ht, State.record_noted_same]
  exact if_neg (by simp [hc])

/-- A buffer returned and then freed is freed. -/
theorem bufferFreed_bufferReturned (s : State) (b : BufferNo) (o : Slot) (t : List Octet) :
    (s.bufferReturned b o t).bufferFreed b = s.bufferFreed b := by
  simp [State.bufferReturned, State.bufferFreed]

theorem abandonText_of_cancelled (hs : (s.record i).state.isEnlisted = true)
    (hb : (s.record i).outboundText = some b) (ht : s.buffers[b.val] = .inFlight o t)
    (hc : (s.record i).cancelRequested = true) :
    s.abandonText i p = (s.bufferFreed b).noted i 0x020
      { (s.record i).textFreed with
        resyncPending := (s.record i).resyncPending || decide (p = .whollySent) ||
          decide ((s.record i).retryCount ≠ 0)
        failureCause := .cancelled } := by
  have hne : (s.record i).state ≠ .retiring := ((Lifecycle.isEnlisted_iff _).mp hs).2
  have hw : mayRaise (s.record i).state .failed = true := by
    cases e : (s.record i).state <;> simp_all [mayRaise, Lifecycle.isEnlisted]
  simp only [State.abandonText, if_neg hne, returned_resync hb ht, State.record_noted_same]
  refine (if_pos hc).trans ?_
  rw [← bufferFreed_bufferReturned s b o t]
  by_cases hn : (s.record i).retryCount = 0
  · rw [if_pos hn, noted_failText b .cancelled (by exact hb) (by rfl) (by exact hw), noReason_or]
    simp [hn, Record.textFreed]
  · rw [if_neg hn, State.setResync, noted_modRecord _ rfl,
      noted_failText b .cancelled (by exact hb) (by rfl) (by exact hw), noReason_or]
    simp [hn, Record.textFreed]

/-- An event abandons the exchange as the statements say where it finishes what the abandoned exchange leaves, its context
aside. -/
theorem abandonsBy_of_ends {e : Instr} {finish : State → State}
    (h : ∀ u : State, s.abandonExchange = { u with context := none } →
      exec e s = .next (finish u)) : s.abandonsBy e finish := by
  refine ⟨fun hn => h s ?_, fun c hc => ⟨fun b hx => h s ?_, fun i hx => ⟨fun hs => h s ?_,
    fun hs hb => h _ ?_⟩, fun i o b x hx hb ht => ⟨fun he hcr => h _ ?_, fun he hcr => h _ ?_,
    fun hs => h _ ?_⟩⟩⟩
  · rw [abandonExchange_of_none hn, ← hn]
  · rw [abandonExchange_of_some hc]
    simp only [State.applyAbandoned, hx]
    rfl
  · have hi : c.exchange.slot? = some i := by obtain hx | hx := hx <;> rw [hx] <;> rfl
    have ha : s.applyAbandoned c = s := by
      obtain hx | hx := hx <;> simp only [State.applyAbandoned, hx, if_neg hs]
    rw [abandonExchange_of_some hc, ha]
    exact State.endContext_of_not_retiring s _ fun k hk => Option.some.inj (hi.symm.trans hk) ▸ hs
  · have hi : c.exchange.slot? = some i := by obtain hx | hx := hx <;> rw [hx] <;> rfl
    have ha : s.applyAbandoned c = s.noted i 0 (s.record i).textFreed := by
      rw [State.noted_zero]
      obtain hx | hx := hx <;> simp only [State.applyAbandoned, hx, if_pos hs] <;>
        exact s.freeText_of_none i hb
    rw [abandonExchange_of_some hc, ha]
    exact endContext_noted_of_retiring hi rfl hs
  · have hi : c.exchange.slot? = some i := by rw [hx]; rfl
    have hne : (s.record i).state ≠ .retiring := ((Lifecycle.isEnlisted_iff _).mp he).2
    rw [abandonExchange_of_some hc]
    simp only [State.applyAbandoned, hx]
    rw [abandonText_of_uncancelled hne hb ht hcr, endContext_noted rfl (by exact hne),
      State.noted_zero]
    rfl
  · have hne : (s.record i).state ≠ .retiring := ((Lifecycle.isEnlisted_iff _).mp he).2
    rw [abandonExchange_of_some hc]
    simp only [State.applyAbandoned, hx]
    rw [abandonText_of_cancelled he hb ht hcr, endContext_noted rfl (by exact hne)]
  · rw [abandonExchange_of_some hc]
    simp only [State.applyAbandoned, hx]
    rw [abandonText_of_retiring hs hb, endContext_noted_of_retiring rfl (by rfl) (by exact hs)]
    rfl

end

/-- Settles O46: ABORT LINE finishes what the abandoned exchange leaves. -/
theorem abortLineAbandonsTheExchange : Obligations.AbortLineAbandonsTheExchange := by
  unfold Obligations.AbortLineAbandonsTheExchange
  intro s h
  refine abandonsBy_of_ends fun u hu => ?_
  have hb : abortLine [] s = answer (s.abandonExchange.enterStopped true) .ok [] := rfl
  rw [← hu]
  exact congrArg Host.Outcome.next (complete_of_answered (n := .abortLine) h rfl hb rfl)

end Sys2Proof.Machine
end

section
namespace Sys2Proof.Machine

/-! ### What an abandoned exchange keeps (R75, R142 to R144) -/

/-- No record's miss count, state or toggles have changed, and no inbound text has come. -/
structure SameTurns (s t : State) : Prop where
  inbound : t.inbound = s.inbound
  turns : ∀ j : Slot, (t.record j).missCount = (s.record j).missCount ∧
    (t.record j).state = (s.record j).state ∧ (t.record j).outToggle = (s.record j).outToggle ∧
    (t.record j).inToggle = (s.record j).inToggle

section
variable {s t u : State} {i : Slot}

theorem SameTurns.trans (h : SameTurns s t) (h' : SameTurns t u) : SameTurns s u := by
  refine ⟨h'.inbound.trans h.inbound, fun j => ?_⟩
  obtain ⟨h1, h2, h3, h4⟩ := h.turns j
  obtain ⟨k1, k2, k3, k4⟩ := h'.turns j
  exact ⟨k1.trans h1, k2.trans h2, k3.trans h3, k4.trans h4⟩

theorem SameTurns.of_records (hr : t.records = s.records) (hi : t.inbound = s.inbound) :
    SameTurns s t :=
  ⟨hi, fun j => by rw [State.record_congr t s hr j]; exact ⟨rfl, rfl, rfl, rfl⟩⟩

theorem SameTurns.refl (s : State) : SameTurns s s := .of_records rfl rfl

/-- A change of one record that keeps its turn. -/
theorem SameTurns.of_record (hi : t.inbound = s.inbound) (hj : ∀ j, j ≠ i → t.record j = s.record j)
    (h : (t.record i).missCount = (s.record i).missCount ∧
      (t.record i).state = (s.record i).state ∧ (t.record i).outToggle = (s.record i).outToggle ∧
      (t.record i).inToggle = (s.record i).inToggle) : SameTurns s t := by
  refine ⟨hi, fun j => ?_⟩
  by_cases e : j = i
  · subst e; exact h
  · rw [hj j e]; exact ⟨rfl, rfl, rfl, rfl⟩

theorem sameTurns_freeText (s : State) (i : Slot) : SameTurns s (s.freeText i) :=
  .of_record inbound_freeText (fun j hj => s.record_freeText_ne i j hj) (by
    rw [State.record_freeText_same]; exact ⟨rfl, rfl, rfl, rfl⟩)

theorem sameTurns_modRecord (s : State) (i : Slot) (f : Record → Record)
    (h : ∀ r, (f r).missCount = r.missCount ∧ (f r).state = r.state ∧
      (f r).outToggle = r.outToggle ∧ (f r).inToggle = r.inToggle) :
    SameTurns s (s.modRecord i f) :=
  .of_record rfl (fun j hj => s.record_modRecord_ne i j f hj) (by
    rw [State.record_modRecord_same]; exact h _)

theorem sameTurns_setResync (s : State) (i : Slot) : SameTurns s (s.setResync i) :=
  sameTurns_modRecord s i _ fun _ => ⟨rfl, rfl, rfl, rfl⟩

theorem sameTurns_raise (s : State) (i : Slot) (r : Reason) : SameTurns s (s.raise i r) :=
  .of_record (by rw [s.raise_frame i r]) (fun j hj => s.record_raise_ne i j r hj) (by
    rw [State.record_raise_same]; exact ⟨rfl, rfl, rfl, rfl⟩)

theorem sameTurns_raiseFailed (s : State) (i : Slot) (w : FailureCause) :
    SameTurns s (s.raiseFailed i w) := by
  unfold State.raiseFailed
  split
  · exact (sameTurns_raise s i .failed).trans
      (sameTurns_modRecord _ i _ fun _ => ⟨rfl, rfl, rfl, rfl⟩)
  · exact .refl s

theorem sameTurns_returnText (s : State) (i : Slot) : SameTurns s (s.returnText i) := by
  rw [s.returnText_frame i]
  exact .of_records rfl rfl

theorem sameTurns_testRetired (s : State) (i : Slot) : SameTurns s (s.testRetired i) := by
  unfold State.testRetired
  split
  · exact sameTurns_raise s i .retired
  · exact .refl s

theorem sameTurns_endContext (s : State) (x : Exchange) : SameTurns s (s.endContext x) := by
  have hcleared : SameTurns s { s with context := none } := .of_records rfl rfl
  unfold State.endContext
  split
  · exact hcleared.trans (sameTurns_testRetired _ _)
  · exact hcleared

theorem sameTurns_abandonText (s : State) (i : Slot) (p : Point) :
    SameTurns s (s.abandonText i p) := by
  have hret := sameTurns_returnText s i
  have hu : SameTurns s
      (if p = .whollySent then (s.returnText i).setResync i else s.returnText i) := by
    split
    · exact hret.trans (sameTurns_setResync _ i)
    · exact hret
  have hfail (v : State) : SameTurns v (v.failText i .cancelled) :=
    (sameTurns_freeText v i).trans (sameTurns_raiseFailed _ i _)
  unfold State.abandonText
  split
  · exact sameTurns_freeText s i
  · simp only
    generalize (if p = .whollySent then (s.returnText i).setResync i else s.returnText i) = u at hu ⊢
    split
    · refine SameTurns.trans ?_ (hfail _)
      split
      · exact hu
      · exact hu.trans (sameTurns_setResync _ i)
    · exact hu

theorem sameTurns_applyAbandoned (s : State) (c : Context) : SameTurns s (s.applyAbandoned c) := by
  unfold State.applyAbandoned
  split
  · exact sameTurns_abandonText s _ _
  · split
    · exact sameTurns_freeText s _
    · exact .refl s
  · split
    · exact sameTurns_freeText s _
    · exact .refl s
  · exact .refl s

theorem sameTurns_abandonExchange (s : State) : SameTurns s s.abandonExchange := by
  unfold State.abandonExchange
  split
  · exact .refl s
  · exact (sameTurns_applyAbandoned s _).trans (sameTurns_endContext _ _)

theorem frame_abandonExchange (s : State) :
    s.abandonExchange =
      { s with
        context := none, records := s.abandonExchange.records
        attention := s.abandonExchange.attention, buffers := s.abandonExchange.buffers
        causeBufferFree := s.abandonExchange.causeBufferFree
        bufferWanted := s.abandonExchange.bufferWanted
        followOn := s.abandonExchange.followOn } := by
  have hinb := (sameTurns_abandonExchange s).inbound
  obtain ⟨_, _, _, _, _, inb, _, h⟩ := slotFrame_abandonExchange (s := s)
  rw [h] at hinb ⊢
  obtain rfl : inb = s.inbound := hinb
  rfl

/-! ### The entries into FAULT (R142 to R144) -/

/-- Each entry into FAULT abandons the exchange, if there is one, and writes its code. -/
theorem exec_of_fault {e : Instr} {k : FaultCode}
    (h : (e = .ctsTimerExpiry ∧ k = .ctsTimeout ∧ s.engine = .raising ∧ s.ctsTimer.isSome = true) ∨
      (e = .ctsLost ∧ k = .ctsLost ∧ s.engine = .sending ∧ s.ctsLoss = true) ∨
      (e = .settleTimerExpiry ∧ k = .carrierStuck ∧ s.engine = .settling ∧
        s.settleTimer.isSome = true ∧ s.dcd = true ∧ s.context = none)) :
    exec e s = .next (s.abandonExchange.enterFault k) := by
  obtain ⟨rfl, rfl, he, ht⟩ | ⟨rfl, rfl, he, hl⟩ | ⟨rfl, rfl, he, ht, hd, hc⟩ := h
  · exact congrArg Host.Outcome.next (if_pos ⟨he, ht⟩)
  · exact congrArg Host.Outcome.next (if_pos ⟨he, hl⟩)
  · rw [abandonExchange_of_none hc]
    exact congrArg Host.Outcome.next (if_pos ⟨he, ht, hd⟩)

end

/-- Settles O49: the entry into FAULT after the exchange is abandoned, which keeps every record's turn. -/
theorem faultsAbandonTheExchange : Obligations.FaultsAbandonTheExchange := by
  unfold Obligations.FaultsAbandonTheExchange
  intro s c k h faulted
  have hx := exec_of_fault h
  refine ⟨abandonsBy_of_ends fun u hu => ?_, _, hx, (sameTurns_abandonExchange s).turns, ?_⟩
  · rw [hx, hu]
    rfl
  · exact congrArg (State.enterFault · k) (frame_abandonExchange s)

end Sys2Proof.Machine
end

section
namespace Sys2Proof.Machine

/-! ### The ring cursor under an edit (R29 to R31) -/

section
variable {s : State} {i : Slot} {l : List Slot} {c k p : Nat}

/-- The entries before the cursor once those of the slot at positions below `k` are purged. -/
def survivorsBefore (i : Slot) (l : List Slot) (c k : Nat) : Nat :=
  ((l.take (min c k)).filter (· != i)).length + (c - k)

/-- A position that does not name the slot is passed over by the purge. -/
theorem survivorsBefore_succ_of_other (hk : k < l.length) (h : l[k] ≠ i) :
    survivorsBefore i l c (k + 1) = survivorsBefore i l c k := by
  unfold survivorsBefore
  obtain hlt | hle := Nat.lt_or_ge k c
  · rw [Nat.min_eq_right hlt, Nat.min_eq_right (Nat.le_of_lt hlt),
      List.take_succ_eq_append_getElem hk, List.filter_append]
    simp [h]
    omega
  · rw [Nat.min_eq_left hle, Nat.min_eq_left (Nat.le_succ_of_le hle)]
    omega

/-- An entry removed before the cursor does not count, and the cursor moves down with it (R30). -/
theorem survivorsBefore_eraseIdx_of_lt (hk : k < l.length) (h : l[k] = i) (hc : k < c) :
    survivorsBefore i (l.eraseIdx k) (c - 1) k = survivorsBefore i l c (k + 1) := by
  unfold survivorsBefore
  rw [Nat.min_eq_right hc, Nat.min_eq_right (Nat.le_sub_one_of_lt hc),
    List.take_eraseIdx_eq_take_of_le _ _ _ (Nat.le_refl k), List.take_succ_eq_append_getElem hk,
    List.filter_append]
  simp [h]
  omega

/-- An entry removed at or after the cursor leaves those before it (R30). -/
theorem survivorsBefore_eraseIdx_of_ge (hc : c ≤ k) :
    survivorsBefore i (l.eraseIdx k) c k = survivorsBefore i l c (k + 1) := by
  unfold survivorsBefore
  rw [Nat.min_eq_left hc, Nat.min_eq_left (Nat.le_succ_of_le hc),
    List.take_eraseIdx_eq_take_of_le _ _ _ hc]
  omega

theorem cursorAfterRemove_of_lt {n : Nat} (hn : n ≠ 0) (h : p < c) :
    cursorAfterRemove n p c = c - 1 := by
  simp [cursorAfterRemove, hn, h]

theorem cursorAfterRemove_of_last {n : Nat} : cursorAfterRemove n n n = 0 := by
  simp [cursorAfterRemove]

theorem cursorAfterRemove_of_ge {n : Nat} (hn : n ≠ 0) (h : c ≤ p) (hl : ¬ (p = c ∧ c = n)) :
    cursorAfterRemove n p c = c := by
  simp [cursorAfterRemove, hn, Nat.not_lt.mpr h, hl]

/-- A step of the purge keeps the number of surviving entries before the cursor, or that number is all of them and the
cursor wraps (R30, R31). -/
theorem survivorsBefore_removeEntry (hk : k < l.length) (h : l[k] = i) (hc : c < l.length) :
    survivorsBefore i (l.eraseIdx k) (cursorAfterRemove (l.length - 1) k c) k =
        survivorsBefore i l c (k + 1) ∨
      (survivorsBefore i (l.eraseIdx k) (cursorAfterRemove (l.length - 1) k c) k = 0 ∧
        survivorsBefore i l c (k + 1) =
          ((l.take (k + 1)).filter (· != i) ++ l.drop (k + 1)).length) := by
  by_cases hlast : k = c ∧ c = l.length - 1
  · obtain ⟨rfl, he⟩ := hlast
    refine .inr ⟨?_, ?_⟩
    · rw [← he, cursorAfterRemove_of_last]
      simp [survivorsBefore]
    · rw [survivorsBefore, Nat.min_eq_left (Nat.le_succ k), List.take_succ_eq_append_getElem hk,
        List.filter_append]
      simp [h]
      omega
  · left
    obtain hlt | hge := Nat.lt_or_ge k c
    · rw [cursorAfterRemove_of_lt (by omega) hlt, survivorsBefore_eraseIdx_of_lt hk h hlt]
    · rw [cursorAfterRemove_of_ge (by omega) hge hlast, survivorsBefore_eraseIdx_of_ge hge]

/-- The purge leaves the cursor on the first surviving entry at or after its own, or on the head (R31). -/
theorem cursor_purgeEntries (hk : k ≤ l.length) (hc : CursorWithin (l, c)) :
    (purgeEntries i (l, c) k).2 =
      if survivorsBefore i l c k < ((l.take k).filter (· != i) ++ l.drop k).length then
        survivorsBefore i l c k
      else 0 := by
  induction k generalizing l c with
  | zero =>
    obtain ⟨hin, hout⟩ := hc
    by_cases hl : l = []
    · simp [purgeEntries, survivorsBefore, hl, hout hl]
    · simp [purgeEntries, survivorsBefore, hin hl]
  | succ k ih =>
    have hlt : k < l.length := hk
    have hring := ring_purgeEntries i l c (k + 1) hk
    unfold purgeEntries at hring ⊢
    split at hring
    · next he =>
      have hi : l[k] = i := by simpa [hlt] using he
      have hlen : k ≤ (l.eraseIdx k).length := by rw [List.length_eraseIdx_of_lt hlt]; omega
      have hcl : c < l.length := hc.1 (List.ne_nil_of_length_pos (Nat.zero_lt_of_lt hlt))
      rw [removeEntry, ring_purgeEntries i _ _ _ hlen] at hring
      rw [if_pos he, removeEntry, ih hlen (cursorWithin_removeEntry (l, c) k hlt hc), hring]
      obtain e | ⟨e, e'⟩ := survivorsBefore_removeEntry hlt hi hcl
      · rw [e]
      · rw [e, e', if_neg (Nat.lt_irrefl _), ite_self]
    · next he =>
      have hi : l[k] ≠ i := fun e => he (by simp [hlt, e])
      rw [ring_purgeEntries i _ _ _ (Nat.le_of_lt hlt)] at hring
      rw [if_neg he, ih (Nat.le_of_lt hlt) hc, survivorsBefore_succ_of_other hlt hi, hring]

/-- The cursor of a retired slot's ring is that of the purge (R31). -/
theorem ringCursor_retire (s : State) (i : Slot) :
    (s.retire i).ringCursor = (purgeEntries i (s.ring, s.ringCursor) s.ring.length).2 := by
  obtain ⟨_, _, _, _, _, _, _, h⟩ :=
    (s.purged_frame i).trans (State.noted_frame _ i ((s.purged i).retiredIf i)
      ((s.purged i).record i))
  rw [s.retire_eq_noted, h]
  rfl

end

/-- Settles O34: by the purge's cursor, position by position. -/
theorem retirePurgeKeepsTheCursorsPlace : Obligations.RetirePurgeKeepsTheCursorsPlace := by
  unfold Obligations.RetirePurgeKeepsTheCursorsPlace
  intro s t i h he hc hx
  have hretire : exec .retireStation s = .next ((s.retire i).answered [0x00]) :=
    congrArg Host.Outcome.next
      (complete_of_answered (n := .retireStation) h rfl (retireStation_of_isEnlisted he) rfl)
  obtain rfl : t = (s.retire i).answered [0x00] := by
    rw [hretire] at hx
    exact (Host.Outcome.next.inj hx).symm
  have hring : (s.retire i).ring = s.ring.filter (· != i) := (lists_retire s i).1
  have hwithin : CursorWithin (s.ring, s.ringCursor) :=
    ⟨fun _ => hc, fun hn : s.ring = [] => by rw [hn] at hc; cases hc⟩
  refine ⟨hring, ?_⟩
  rw [State.answered_ringCursor, State.answered_ring, hring, ringCursor_retire,
    cursor_purgeEntries (Nat.le_refl _) hwithin]
  simp [survivorsBefore, Nat.min_eq_left (Nat.le_of_lt hc), Nat.sub_eq_zero_of_le (Nat.le_of_lt hc)]

end Sys2Proof.Machine
end

section
namespace Sys2Proof.Machine

/-! ### RING INSERT, RING REMOVE and POLL NOW, by their checks (R29, R30, R36) -/

section
variable {s : State} {i : Slot} {p : Octet}

theorem ringInsert_of_not_isEnlisted (hs : (s.record i).state.isEnlisted = false) :
    ringInsert [p, slotOctet i] s = refuse s .wrongState := by
  simp only [ringInsert, argument, List.getD_cons_zero, List.getD_cons_succ, withSlot_slotOctet]
  split
  case h_1 | h_2 => rfl
  all_goals next e => simp [e, Lifecycle.isEnlisted] at hs

/-- RING INSERT of an enlisted station: its checks in their order, and the entry counted (R29). -/
theorem ringInsert_of_isEnlisted (hs : (s.record i).state.isEnlisted = true) :
    ringInsert [p, slotOctet i] s =
      if s.ring.length < p.toNat then refuse s .badPosition
      else if 64 ≤ s.ring.length then refuse s .ringFull
      else if 4 ≤ (s.record i).ringCount then refuse s .slotLimit
      else answer
        { s.modRecord i (fun r => { r with ringCount := r.ringCount + 1 }) with
          ring := s.ring.take p.toNat ++ i :: s.ring.drop p.toNat
          ringCursor := cursorAfterInsert s.ring.length p.toNat s.ringCursor } .ok [] := by
  simp only [ringInsert, argument, List.getD_cons_zero, List.getD_cons_succ, withSlot_slotOctet]
  split
  case h_3 | h_4 => rfl
  all_goals next e => simp [e, Lifecycle.isEnlisted] at hs

theorem ringRemove_of_none (h : s.ring[p.toNat]? = none) :
    ringRemove [p] s = refuse s .badPosition := by
  simp [ringRemove, argument, h]

theorem ringRemove_of_some (h : s.ring[p.toNat]? = some i) :
    ringRemove [p] s = answer
      { s.modRecord i (fun r => { r with ringCount := r.ringCount - 1 }) with
        ring := s.ring.eraseIdx p.toNat
        ringCursor := cursorAfterRemove (s.ring.length - 1) p.toNat s.ringCursor }
      .ok [slotOctet i] := by
  simp [ringRemove, argument, h, removeEntry]

theorem pollNow_of_not_isInService (hs : (s.record i).state.isInService = false) :
    pollNow [slotOctet i] s = refuse s .wrongState := by
  simp only [pollNow, argument, List.getD_cons_zero, withSlot_slotOctet]
  split
  case h_1 | h_2 | h_3 => rfl
  case h_4 e => simp [e, Lifecycle.isInService] at hs

/-- POLL NOW of a station in service: its checks in their order, and the slot at the tail (R36). -/
theorem pollNow_of_isInService (hs : (s.record i).state.isInService = true) :
    pollNow [slotOctet i] s =
      if i ∈ s.urgent then refuse s .already
      else if 4 ≤ s.urgent.length then refuse s .urgentFull
      else answer { s with urgent := s.urgent ++ [i] } .ok [] := by
  simp only [pollNow, argument, List.getD_cons_zero, withSlot_slotOctet, List.contains_iff_mem]
  split
  case h_4 => rfl
  all_goals next e => simp [e, Lifecycle.isInService] at hs

end

/-! ### The entry that the cursor names (R29, R30) -/

section
variable {l : List Slot} {i : Slot} {c p : Nat}

theorem cursorAfterInsert_eq (h : l = [] → c = 0) :
    cursorAfterInsert l.length p c = if l = [] then 0 else if p ≤ c then c + 1 else c := by
  unfold cursorAfterInsert
  by_cases hl : l = []
  · simp [hl, h hl]
  · simp [hl]

/-- An insertion leaves the cursor on the entry it named (R29). -/
theorem getElem?_inserted (hp : p ≤ l.length) :
    (l.take p ++ i :: l.drop p)[if p ≤ c then c + 1 else c]? = l[c]? := by
  have hlen : (l.take p).length = p := by simp [hp]
  split
  · next h =>
    rw [List.getElem?_append_right (by omega), hlen, Nat.sub_add_comm h, List.getElem?_cons_succ,
      List.getElem?_drop, Nat.add_sub_of_le h]
  · next h =>
    rw [List.getElem?_append_left (by omega), List.getElem?_take_of_lt (Nat.lt_of_not_le h)]

theorem cursorAfterRemove_eq (hp : p < l.length) :
    cursorAfterRemove (l.length - 1) p c =
      if l.length = 1 then 0
      else if p < c then c - 1
      else if p = c ∧ c = l.length - 1 then 0
      else c := by
  have : l.length - 1 = 0 ↔ l.length = 1 := by omega
  simp only [cursorAfterRemove, this]

/-- A removal leaves the cursor on the entry it named, or on the next in ring order where that entry is gone (R30). -/
theorem getElem?_removed (hc : c < l.length) (hp : p < l.length) (hl : l.length - 1 ≠ 0) :
    (l.eraseIdx p)[cursorAfterRemove (l.length - 1) p c]? =
      if p = c then l[(c + 1) % l.length]? else l[c]? := by
  rw [List.getElem?_eraseIdx]
  obtain hlt | rfl | hgt := Nat.lt_trichotomy p c
  · rw [cursorAfterRemove_of_lt hl hlt, if_neg (by omega), if_neg (by omega),
      Nat.sub_add_cancel (by omega)]
  · rw [if_pos rfl]
    by_cases hlast : p = l.length - 1
    · have hwrap : (p + 1) % l.length = 0 := by
        rw [hlast, Nat.sub_add_cancel (by omega), Nat.mod_self]
      rw [← hlast, cursorAfterRemove_of_last, if_pos (by omega), hwrap]
    · rw [cursorAfterRemove_of_ge hl (Nat.le_refl p) (fun h => hlast h.2), if_neg (by omega),
        Nat.mod_eq_of_lt (by omega)]
  · rw [cursorAfterRemove_of_ge hl (Nat.le_of_lt hgt) (by omega), if_pos hgt, if_neg (by omega)]

end

/-- Settles O37: each edit by its checks, and the entry that the cursor then names. -/
theorem ringEditsKeepTheCursorsPlace : Obligations.RingEditsKeepTheCursorsPlace := by
  unfold Obligations.RingEditsKeepTheCursorsPlace
  refine ⟨fun s p i h he hp hl hc h0 => ?_, fun s p h => ⟨fun hp => ?_, fun i hi => ?_⟩⟩
  · have hb := ringInsert_of_isEnlisted (p := p) he
    rw [if_neg (Nat.not_lt.mpr hp), if_neg (Nat.not_le.mpr hl), if_neg (Nat.not_le.mpr hc),
      cursorAfterInsert_eq h0] at hb
    refine ⟨_, congrArg Host.Outcome.next (complete_of_answered (n := .ringInsert) h rfl hb rfl),
      rfl, fun hcur => ?_⟩
    have hne : s.ring ≠ [] := List.ne_nil_of_length_pos (Nat.zero_lt_of_lt hcur)
    rw [State.answered_ring, State.answered_ringCursor]
    simp only [if_neg hne]
    exact getElem?_inserted hp
  · exact congrArg Host.Outcome.next (complete_of_refused (n := .ringRemove) h rfl
      (ringRemove_of_none (List.getElem?_eq_none hp)))
  · obtain ⟨hp, _⟩ := List.getElem?_eq_some_iff.mp hi
    have hx := complete_of_answered (n := .ringRemove) h rfl (ringRemove_of_some hi) rfl
    refine ⟨_, congrArg Host.Outcome.next hx, ?_, fun hcur hne => ?_⟩
    · rw [cursorAfterRemove_eq hp]
      rfl
    · have hlen : 0 < (s.ring.eraseIdx p.toNat).length := List.length_pos_iff.mpr hne
      rw [List.length_eraseIdx_of_lt hp] at hlen
      exact getElem?_removed hcur hp (Nat.ne_of_gt hlen)

/-- Settles O39: each check, with the checks before it passed. -/
theorem pollNowAppendsTheSlot : Obligations.PollNowAppendsTheSlot := by
  unfold Obligations.PollNowAppendsTheSlot
  intro s p i
  have hpoll {c : ResultCode} (h : s.inHand 0x24 [slotOctet i])
      (hb : pollNow [slotOctet i] s = refuse s c) : s.refuses .pollNow c.octet 0 :=
    congrArg Host.Outcome.next (complete_of_refused (n := .pollNow) h rfl hb)
  have hinsert {c : ResultCode} (h : s.inHand 0x20 [p, slotOctet i])
      (hb : ringInsert [p, slotOctet i] s = refuse s c) : s.refuses .ringInsert c.octet 0 :=
    congrArg Host.Outcome.next (complete_of_refused (n := .ringInsert) h rfl hb)
  refine ⟨fun h => ⟨fun hs => ?_, fun hs hm => ?_, fun hs hm hl => ?_, fun hs hm hl => ?_⟩,
    fun h => ⟨fun he => ?_, fun he hp => ?_, fun he hp hl => ?_, fun he hp hl hc => ?_⟩⟩
  · exact hpoll h (pollNow_of_not_isInService hs)
  · exact hpoll h ((pollNow_of_isInService hs).trans (if_pos hm))
  · exact hpoll h (by rw [pollNow_of_isInService hs, if_neg hm, if_pos hl])
  · have hb := pollNow_of_isInService hs
    rw [if_neg hm, if_neg (Nat.not_le.mpr hl)] at hb
    exact congrArg Host.Outcome.next (complete_of_answered (n := .pollNow) h rfl hb rfl)
  · exact hinsert h (ringInsert_of_not_isEnlisted he)
  · exact hinsert h ((ringInsert_of_isEnlisted he).trans (if_pos hp))
  · exact hinsert h (by rw [ringInsert_of_isEnlisted he, if_neg (Nat.not_lt.mpr hp), if_pos hl])
  · exact hinsert h (by
      rw [ringInsert_of_isEnlisted he, if_neg (Nat.not_lt.mpr hp), if_neg (Nat.not_le.mpr hl),
        if_pos hc])

/-! ### The reports (R32, R89) -/

theorem freeBufferCount_eq (s : State) : s.freeBufferCount = s.buffers.toList.count .free := by
  have hl : s.buffers.toList =
      (List.finRange Config.outboundBuffers).map fun b => s.buffers[b.val] := by
    refine List.ext_getElem (by simp) fun k _ _ => ?_
    simp only [Vector.getElem_toList, List.getElem_map, List.getElem_finRange, Fin.val_cast]
  rw [hl, List.count, List.countP_map]
  rfl

/-- Settles O38: each report's octets, the state left alone. -/
theorem reportsChangeNothing : Obligations.ReportsChangeNothing := by
  unfold Obligations.ReportsChangeNothing
  intro s p
  refine ⟨fun i h hi => ?_, fun h hp => ?_, fun h => ?_, fun h => ?_⟩
  · have hb : ringRead [p] s = answer s .ok [slotOctet i] := by simp [ringRead, argument, hi]
    exact congrArg Host.Outcome.next (complete_of_answered (n := .ringRead) h rfl hb rfl)
  · have hb : ringRead [p] s = refuse s .badPosition := by
      simp [ringRead, argument, List.getElem?_eq_none hp]
    exact congrArg Host.Outcome.next (complete_of_refused (n := .ringRead) h rfl hb)
  · refine (congrArg Host.Outcome.next
      (complete_of_answered (n := .ringStatus) h rfl rfl rfl)).trans ?_
    cases s.probePass <;> rfl
  · rw [← freeBufferCount_eq]
    exact (congrArg Host.Outcome.next
      (complete_of_answered (n := .bufferStatus) h rfl rfl rfl)).trans rfl

end Sys2Proof.Machine
end

section
namespace Sys2Proof.Machine

/-! ### The line commands and the timers in closed form (R38, R39, R134, R135, R144, R146 to R148) -/

section
variable {s : State}

theorem probePeriod_eq (p : Params) : p.probePeriod = 64 * p.probeInterval.toNat :=
  Nat.mul_comm _ _

theorem enterGap_of_zero (h : s.params.turnaroundGap = 0) :
    s.enterGap =
      { s with engine := .ready, framer := none, receiver := Receiver.off, gapTimer := none } :=
  if_pos h

theorem enterGap_of_ne_zero (h : s.params.turnaroundGap ≠ 0) :
    s.enterGap =
      { s with
        engine := .gap, framer := none, receiver := Receiver.off
        gapTimer := some { period := s.params.turnaroundGap.toNat, count := 0 } } :=
  if_neg h

/-- The line set running, its state and gap timer by the Turnaround Gap (R135, R146). -/
theorem startLine_eq (s : State) :
    s.startLine =
      { s with
        engine := if s.params.turnaroundGap = 0 then .ready else .gap
        gapTimer :=
          if s.params.turnaroundGap = 0 then none
          else some { period := s.params.turnaroundGap.toNat, count := 0 }
        framer := none, receiver := Receiver.off
        probeTimer := some { period := 64 * s.params.probeInterval.toNat, count := 0 }
        probePass := .pending, probeCursor := 0 } := by
  unfold State.startLine
  rw [probePeriod_eq]
  by_cases h : s.params.turnaroundGap = 0
  · rw [enterGap_of_zero h, if_pos h, if_pos h]; rfl
  · rw [enterGap_of_ne_zero h, if_neg h, if_neg h]; rfl

theorem startLine_of_stopped (h : s.engine = .stopped ∨ s.engine = .fault) :
    startLine [] s = answer s.startLine .ok [] := by
  obtain h | h := h <;> simp [startLine, h]

theorem startLine_of_running (h : s.engine ≠ .stopped) (h' : s.engine ≠ .fault) :
    startLine [] s = refuse s .lineRunning := by
  cases he : s.engine <;> simp_all [startLine]

theorem stopLine_of_noTurn
    (h : s.engine = .stopped ∨ s.engine = .gap ∨ s.engine = .ready ∨ s.engine = .fault) :
    s.stopLine = s.enterStopped true := by
  obtain h | h | h | h := h <;> simp [State.stopLine, h]

theorem stopLine_of_turn (h : s.engine.inExchange = true ∨ s.engine = .settling) :
    s.stopLine = { s with stopRequested := true } := by
  cases he : s.engine <;> simp_all [State.stopLine, EngineState.inExchange]

/-- Every entry into STOPPED by a stop, field by field (R105, R144). -/
theorem enterStopped_true_eq (s : State) :
    s.enterStopped true =
      { s with
        engine := .stopped, causeLineStopped := true, framer := none, receiver := Receiver.off
        gapTimer := none, ctsTimer := none, replyTimer := none, settleTimer := none
        ctsLoss := false, stopRequested := false, lineTest := none, probeTimer := none
        probePass := .none, probeCursor := 0, followOn := none } := by
  rw [State.enterStopped, Bool.or_true]
  rfl

end

/-- Settles O45: by the engine's state. -/
theorem startAndStopLineMoveTheEngine : Obligations.StartAndStopLineMoveTheEngine := by
  unfold Obligations.StartAndStopLineMoveTheEngine
  refine ⟨fun s h => ⟨fun he => ?_, fun hs hf => ?_⟩, fun s h => ⟨fun he => ?_, fun he => ?_⟩⟩
  · rw [← startLine_eq]
    exact congrArg Host.Outcome.next
      (complete_of_answered (n := .startLine) h rfl (startLine_of_stopped he) rfl)
  · exact congrArg Host.Outcome.next
      (complete_of_refused (n := .startLine) h rfl (startLine_of_running hs hf))
  · have hb : stopLine [] s = answer (s.enterStopped true) .ok [] :=
      congrArg (answer · .ok []) (stopLine_of_noTurn he)
    rw [← enterStopped_true_eq]
    exact congrArg Host.Outcome.next (complete_of_answered (n := .stopLine) h rfl hb rfl)
  · have hb : stopLine [] s = answer { s with stopRequested := true } .ok [] :=
      congrArg (answer · .ok []) (stopLine_of_turn he)
    exact congrArg Host.Outcome.next (complete_of_answered (n := .stopLine) h rfl hb rfl)

/-! ### Timer expiries (R38, R39, R135, R140) -/

section
variable {s : State}

/-- A new probe period, with a NONE pass made PENDING (R38, R39). -/
theorem probeTimerExpiry_of_running (h : s.probeTimer.isSome = true) :
    s.probeTimerExpiry =
      { s with
        probeTimer := some { period := 64 * s.params.probeInterval.toNat, count := 0 }
        probePass := if s.probePass = .none then .pending else s.probePass
        probeCursor := if s.probePass = .none then 0 else s.probeCursor } := by
  unfold State.probeTimerExpiry
  rw [if_pos h, probePeriod_eq]
  cases s.probePass <;> simp [startTimer]

/-- NO REPLY: the miss applied, the timer stopped and the turn at its end (R140). -/
theorem replyTimerExpiry_of_listening (he : s.engine = .listening)
    (ht : s.replyTimer.isSome = true) :
    s.replyTimerExpiry = State.endTurn { s.missExchange with replyTimer := none } := by
  simp only [State.replyTimerExpiry, he, if_pos ht]

/-- The end of an exchange as a miss keeps the stop request and the parameters. -/
theorem missExchange_keeps (s : State) :
    s.missExchange.stopRequested = s.stopRequested ∧ s.missExchange.params = s.params := by
  obtain ⟨_, _, _, _, _, _, _, e⟩ := slotFrame_missExchange (s := s)
  rw [e]
  exact ⟨rfl, rfl⟩

end

/-- Settles O50: each timer's expiry, the reply timer's by the stop request and the Turnaround Gap. -/
theorem timersExpire : Obligations.TimersExpire := by
  unfold Obligations.TimersExpire
  intro s
  refine ⟨fun he ht => congrArg Host.Outcome.next (if_pos ⟨he, ht⟩),
    fun ht => congrArg Host.Outcome.next (probeTimerExpiry_of_running ht), fun he ht => ?_⟩
  intro u
  have hx : exec .replyTimerExpiry s = .next u.endTurn :=
    congrArg Host.Outcome.next (replyTimerExpiry_of_listening he ht)
  obtain ⟨hstop, hparams⟩ : u.stopRequested = s.stopRequested ∧ u.params = s.params :=
    missExchange_keeps s
  rw [hx, ← hstop, ← hparams]
  refine ⟨fun hs => ?_, fun hs hg => ?_, fun hs hg => ?_⟩
  · rw [u.endTurn_of_stop hs]
  · rw [u.endTurn_of_no_stop hs, enterGap_of_ne_zero hg]
  · rw [u.endTurn_of_no_stop hs, enterGap_of_zero hg]

end Sys2Proof.Machine
end

section
namespace Sys2Proof.Machine

/-! ### What each source offers (R40, R45 to R48, R54) -/

section
variable {s : State} {i : Slot} {x : Exchange}

theorem offerFollowOn_of_visited (h : s.followOn = some i)
    (hv : (s.record i).state.isVisited = true) (hr : (s.record i).resyncPending = false) :
    s.offerFollowOn = { state := { s with followOn := none }, exchange := some (.poll i) } := by
  simp [State.offerFollowOn, h, hv, hr]

/-- A follow-on that is absent, or whose station it may not poll, is gone and offers nothing (R45). -/
theorem offerFollowOn_of_dropped
    (h : ∀ i ∈ s.followOn, (s.record i).state.isVisited = false ∨
      (s.record i).resyncPending = true) :
    s.offerFollowOn = { state := { s with followOn := none }, exchange := none } := by
  unfold State.offerFollowOn
  split
  · next hn => rw [← hn]
  · next i hi =>
    obtain hv | hr := h i hi
    · simp [hv]
    · simp [hr]

theorem visitExchange_of_visits (h : s.visits i x) : s.visitExchange i = x := by
  obtain ⟨hr, rfl⟩ | ⟨hr, hf, b, hb, rfl⟩ | ⟨hr, hf, rfl⟩ := h
  · simp [State.visitExchange, hr]
  · simp [State.visitExchange, hr, hf, hb]
  · cases hb : (s.record i).outboundText <;> simp [State.visitExchange, hr, hf, hb]

theorem offerUrgent_of_visited {rest : List Slot} (h : s.urgent = i :: rest)
    (hv : (s.record i).state.isVisited = true) (hx : s.visits i x) :
    s.offerUrgent = { state := { s with urgent := rest }, exchange := some x } := by
  simp [State.offerUrgent, h, hv, visitExchange_of_visits hx]

theorem Lifecycle.isVisited_of_isProbed {a : Lifecycle} (h : a.isProbed = true) :
    a.isVisited = false := by
  unfold Lifecycle.isProbed at h
  split at h
  · rfl
  · rfl
  · cases h

theorem offerUrgent_of_probed {rest : List Slot} (h : s.urgent = i :: rest)
    (hp : (s.record i).state.isProbed = true) :
    s.offerUrgent = { state := { s with urgent := rest }, exchange := some (.sync i) } := by
  simp [State.offerUrgent, h, hp, Lifecycle.isVisited_of_isProbed hp]

theorem offerUrgent_of_nil (h : s.urgent = []) :
    s.offerUrgent = { state := s, exchange := none } := by
  simp only [State.offerUrgent, h]

theorem offerGroup_of_cons {b : BufferNo} {rest : List BufferNo} (h : s.groupQueue = b :: rest) :
    s.offerGroup = { state := s, exchange := some (.group b) } := by
  simp only [State.offerGroup, h]

theorem offerGroup_of_nil (h : s.groupQueue = []) :
    s.offerGroup = { state := s, exchange := none } := by
  simp only [State.offerGroup, h]

theorem nextProbed_eq_some {c : Nat} :
    s.nextProbed c = some i ↔
      (c ≤ i.val ∧ (s.record i).state.isProbed = true) ∧
        ∀ j : Slot, j < i → c ≤ j.val → (s.record j).state.isProbed = false := by
  rw [State.nextProbed, find_finRange_eq_some]
  simp

theorem nextProbed_eq_none {c : Nat} :
    s.nextProbed c = none ↔ ∀ j : Slot, c ≤ j.val → (s.record j).state.isProbed = false := by
  rw [State.nextProbed, find_finRange_eq_none]
  simp

/-- The probe pass takes the lowest STAGED or LOST slot at or above its cursor (R40). -/
theorem offerProbe_of_found (hp : s.probePass ≠ .none) (h : s.nextProbed s.probeCursor = some i) :
    s.offerProbe =
      { state := { s with probePass := .inProgress, probeCursor := i.val + 1 }
        exchange := some (.sync i) } := by
  unfold State.offerProbe
  split
  · next hn => exact absurd hn hp
  all_goals rw [h]

/-- A probe pass that finds no slot ends, and one that is NONE stays so (R40). -/
theorem offerProbe_of_none
    (h : s.probePass ≠ .none → ∀ j : Slot, s.probeCursor ≤ j.val →
      (s.record j).state.isProbed = false) :
    s.offerProbe =
      { state :=
          { s with
            probePass := .none
            probeCursor := if s.probePass = .none then s.probeCursor else 0 }
        exchange := none } := by
  unfold State.offerProbe
  split
  · next hn => rw [if_pos hn, ← hn]
  all_goals
    next hn =>
      rw [nextProbed_eq_none.mpr (h (by rw [hn]; nofun)), if_neg (by rw [hn]; nofun)]

/-! ### The search of the Poll Ring (R46) -/

theorem nextVisited_of_first {p k fuel : Nat} (hk : k < fuel) (hp : p < s.ring.length)
    (hi : s.ring[(p + k) % s.ring.length]? = some i) (hv : (s.record i).state.isVisited = true)
    (hf : ∀ (m : Nat) (j : Slot), m < k → s.ring[(p + m) % s.ring.length]? = some j →
      (s.record j).state.isVisited = false) :
    s.nextVisited p fuel = some ((p + k) % s.ring.length, i) := by
  induction k generalizing p fuel with
  | zero =>
    obtain ⟨fuel, rfl⟩ := Nat.exists_eq_add_one_of_ne_zero (Nat.ne_of_gt hk)
    have hmod : (p + 0) % s.ring.length = p := Nat.mod_eq_of_lt hp
    rw [hmod] at hi ⊢
    simp only [State.nextVisited, hi, if_pos hv]
  | succ k ih =>
    obtain ⟨fuel, rfl⟩ := Nat.exists_eq_add_one_of_ne_zero (Nat.ne_of_gt (Nat.zero_lt_of_lt hk))
    have hmod (m : Nat) : ((p + 1) % s.ring.length + m) % s.ring.length =
        (p + (m + 1)) % s.ring.length := by
      rw [Nat.mod_add_mod, Nat.add_assoc, Nat.add_comm 1]
    have hhead : s.ring[p]? = some s.ring[p] := List.getElem?_eq_getElem hp
    have hskip : (s.record s.ring[p]).state.isVisited = false :=
      hf 0 _ (Nat.zero_lt_succ k) (by rw [Nat.add_zero, Nat.mod_eq_of_lt hp, hhead])
    have hrest := ih (p := (p + 1) % s.ring.length) (Nat.lt_of_succ_lt_succ hk)
      (Nat.mod_lt _ (Nat.zero_lt_of_lt hp)) (by rw [hmod]; exact hi)
      fun m j hm hj => hf (m + 1) j (Nat.succ_lt_succ hm) (by rw [← hmod]; exact hj)
    rw [hmod] at hrest
    simp only [State.nextVisited, hhead, hskip, if_neg Bool.false_ne_true, hrest]

theorem nextVisited_eq_none (h : ∀ i ∈ s.ring, (s.record i).state.isVisited = false)
    (p fuel : Nat) : s.nextVisited p fuel = none := by
  induction fuel generalizing p with
  | zero => rfl
  | succ fuel ih =>
    unfold State.nextVisited
    split
    · rfl
    · next i hi => rw [h i (List.mem_of_getElem? hi), if_neg Bool.false_ne_true, ih]

/-- The Poll Ring offers a visit to the first ACTIVE or SUSPECT entry from the cursor onward (R46). -/
theorem offerRing_of_first {k : Nat} (hk : k < s.ring.length) (hc : s.ringCursor < s.ring.length)
    (hi : s.ring[(s.ringCursor + k) % s.ring.length]? = some i)
    (hv : (s.record i).state.isVisited = true)
    (hf : ∀ (m : Nat) (j : Slot), m < k →
      s.ring[(s.ringCursor + m) % s.ring.length]? = some j →
      (s.record j).state.isVisited = false) (hx : s.visits i x) :
    s.offerRing =
      { state := { s with ringCursor := (s.ringCursor + k + 1) % s.ring.length }
        exchange := some x } := by
  simp only [State.offerRing, nextVisited_of_first hk hc hi hv hf, visitExchange_of_visits hx,
    Nat.mod_add_mod]

theorem offerRing_of_none (h : ∀ i ∈ s.ring, (s.record i).state.isVisited = false) :
    s.offerRing = { state := s, exchange := none } := by
  simp only [State.offerRing, nextVisited_eq_none h]

end

/-! ### The order of the sources (R44), and the selection (R42, R43) -/

section
variable {s t u : State} {x : Exchange}

theorem choose_of_followOn (h : s.offerFollowOn = { state := t, exchange := some x }) :
    s.choose = { state := t, exchange := some x } := by
  simp only [State.choose, Offer.orElse, h]

theorem choose_of_urgent (h : s.offerFollowOn = { state := u, exchange := none })
    (hu : u.offerUrgent = { state := t, exchange := some x }) :
    s.choose = { state := t, exchange := some x } := by
  simp only [State.choose, Offer.orElse, h, hu]

/-- With the follow-on and the urgent list passed over, the selection is that of the last three sources (R44). -/
theorem choose_of_noUrgent (h : s.offerFollowOn = { state := u, exchange := none })
    (hu : u.urgent = []) :
    s.choose = (u.offerGroup.orElse State.offerProbe).orElse State.offerRing := by
  simp only [State.choose, Offer.orElse, h, offerUrgent_of_nil hu]

theorem choose_of_noGroup (h : s.offerFollowOn = { state := u, exchange := none })
    (hu : u.urgent = []) (hg : u.groupQueue = []) :
    s.choose = u.offerProbe.orElse State.offerRing := by
  rw [choose_of_noUrgent h hu]
  simp only [Offer.orElse, offerGroup_of_nil hg]

theorem selectable_iff :
    s.selectable = true ↔
      s.followOn ≠ none ∨ s.urgent ≠ [] ∨ s.groupQueue ≠ [] ∨ s.probePass ≠ .none ∨
        ∃ i ∈ s.ring, (s.record i).state.isVisited = true := by
  simp [State.selectable, or_assoc, Option.isSome_iff_ne_none]

/-- A selection of a source that offers an exchange begins it (R42, R43). -/
theorem exec_selection_of_offer (he : s.engine = .ready) (hs : s.stopRequested = false)
    (hc : s.followOn ≠ none ∨ s.urgent ≠ [] ∨ s.groupQueue ≠ [] ∨ s.probePass ≠ .none ∨
      ∃ i ∈ s.ring, (s.record i).state.isVisited = true)
    (h : s.choose = { state := t, exchange := some x }) :
    exec .selection s = .next (t.beginExchange x) := by
  refine congrArg Host.Outcome.next ?_
  rw [s.select_of_ready he hs (selectable_iff.mpr hc), h]

/-- A selection in which no source offers an exchange leaves what the sources left; with nothing selectable none takes
place (R42, R43). -/
theorem exec_selection_of_none (he : s.engine = .ready) (hs : s.stopRequested = false)
    (h : s.choose = { state := t, exchange := none })
    (hn : s.followOn = none → s.probePass = .none → t = s) :
    exec .selection s = .next t := by
  refine congrArg Host.Outcome.next ?_
  by_cases hc : s.selectable = true
  · rw [s.select_of_ready he hs hc, h]
  · rw [s.select_of_not fun hr => hc hr.2.2]
    rw [selectable_iff] at hc
    exact (hn (by_contra fun hf => hc (.inl hf))
      (by_contra fun hp => hc (.inr (.inr (.inr (.inl hp)))))).symm

end

/-- Settles O54: the sources in their order, each with those before it passed over. -/
theorem selectionTakesTheFirstSourceThatOffers :
    Obligations.SelectionTakesTheFirstSourceThatOffers := by
  unfold Obligations.SelectionTakesTheFirstSourceThatOffers
  intro s he hs u
  refine ⟨fun i hf hv hr => ?_, fun hdrop => ?_⟩
  · exact exec_selection_of_offer he hs (.inl (by rw [hf]; nofun))
      (choose_of_followOn (offerFollowOn_of_visited hf hv hr))
  have hfollow : s.offerFollowOn = { state := u, exchange := none } :=
    offerFollowOn_of_dropped hdrop
  refine ⟨fun i rest x hu => ⟨fun hv hx => ?_, fun hp => ?_⟩, fun hu => ⟨fun b rest hg => ?_,
    fun hg => ⟨fun i hp hle hi hlow => ?_, fun hnone => ?_⟩⟩⟩
  · exact exec_selection_of_offer he hs (.inr (.inl (by rw [hu]; nofun)))
      (choose_of_urgent hfollow (offerUrgent_of_visited (s := u) hu hv hx))
  · exact exec_selection_of_offer he hs (.inr (.inl (by rw [hu]; nofun)))
      (choose_of_urgent hfollow (offerUrgent_of_probed (s := u) hu hp))
  · refine exec_selection_of_offer he hs (.inr (.inr (.inl (by rw [hg]; nofun)))) ?_
    rw [choose_of_noUrgent hfollow hu, offerGroup_of_cons (s := u) hg]
    rfl
  · refine exec_selection_of_offer he hs (.inr (.inr (.inr (.inl hp)))) ?_
    have hnext : u.nextProbed u.probeCursor = some i :=
      nextProbed_eq_some.mpr ⟨⟨hle, hi⟩, fun j hj hjc => hlow j hjc hj⟩
    rw [choose_of_noGroup hfollow hu hg, offerProbe_of_found (s := u) hp hnext]
    rfl
  · intro w
    have hchoose : s.choose = w.offerRing := by
      rw [choose_of_noGroup hfollow hu hg, offerProbe_of_none (s := u) hnone]
      rfl
    refine ⟨fun k i x hk hc hi hv hf hx => ?_, fun hall => ?_⟩
    · exact exec_selection_of_offer he hs
        (.inr (.inr (.inr (.inr ⟨i, List.mem_of_getElem? hi, hv⟩))))
        (hchoose.trans (offerRing_of_first (s := w) hk hc hi hv hf hx))
    · refine exec_selection_of_none he hs (hchoose.trans (offerRing_of_none (s := w) hall))
        fun hf hp => ?_
      simp only [w, u, ← hf, ← hp, if_true]

end Sys2Proof.Machine
end

section
namespace Sys2Proof.Machine

/-! ### The exchange context under each event (R51, R52) -/

section
variable {s t : State}

/-- An event that leaves open whether an exchange is in progress. -/
theorem State.ContextWf.congr (h : s.ContextWf) (he : t.engine.inExchange = s.engine.inExchange)
    (hc : t.context.isSome = s.context.isSome) : t.ContextWf :=
  hc.trans (Eq.trans h he.symm)

/-- An event that moves the engine between two states that are alike in this. -/
theorem State.ContextWf.moved (h : s.ContextWf) {e : EngineState} (he : s.engine = e)
    (ht : t.engine.inExchange = e.inExchange) (hc : t.context.isSome = s.context.isSome) :
    t.ContextWf :=
  h.congr (by rw [ht, he]) hc

/-- An event after which no exchange is in progress. -/
theorem contextWf_of_none (hc : t.context = none) (he : t.engine.inExchange = false) :
    t.ContextWf := by
  rw [State.ContextWf, hc, he]; rfl

theorem SameLine.contextWf (hs : SameLine s t) (h : s.ContextWf) : t.ContextWf :=
  h.congr (congrArg (·.drive.engine.inExchange) hs.line)
    (congrArg (·.drive.context.isSome) hs.line)

/-! #### The engine's entries, with no exchange in progress -/

theorem contextWf_enterStopped (hc : s.context = none) (b : Bool) : (s.enterStopped b).ContextWf :=
  contextWf_of_none hc rfl

theorem contextWf_enterFault (hc : s.context = none) (c : FaultCode) : (s.enterFault c).ContextWf :=
  contextWf_of_none hc rfl

theorem contextWf_endTest (hc : s.context = none) (c : ResultCode) : (s.endTest c).ContextWf :=
  contextWf_of_none hc rfl

theorem contextWf_enterGap (hc : s.context = none) : s.enterGap.ContextWf := by
  unfold State.enterGap
  split <;> exact contextWf_of_none hc rfl

theorem contextWf_endTurn (hc : s.context = none) : s.endTurn.ContextWf := by
  unfold State.endTurn
  split
  · exact contextWf_enterStopped hc true
  · exact contextWf_enterGap hc

theorem contextWf_enterSettling (hc : s.context = none) : s.enterSettling.ContextWf := by
  unfold State.enterSettling
  simp only
  split
  · exact contextWf_of_none hc rfl
  · exact contextWf_endTurn hc

theorem context_endContext (s : State) (x : Exchange) : (s.endContext x).context = none :=
  (slotFrame_endContext s x).context

/-! #### The line commands and LINE TEST -/

theorem contextWf_startLine (args : List Octet) (h : s.ContextWf) :
    (startLine args s).state.ContextWf := by
  have hstart : s.engine.inExchange = false → s.startLine.ContextWf := fun he =>
    contextWf_enterGap (context_of_engine h he)
  unfold startLine
  split
  case h_1 he => exact hstart (by rw [he]; rfl)
  case h_2 he => exact hstart (by rw [he]; rfl)
  all_goals exact h

theorem contextWf_stopLine (h : s.ContextWf) : s.stopLine.ContextWf := by
  have hstop : s.engine.inExchange = false → (s.enterStopped true).ContextWf := fun he =>
    contextWf_enterStopped (context_of_engine h he) true
  unfold State.stopLine
  split
  case h_1 he | h_2 he | h_3 he | h_4 he => exact hstop (by rw [he]; rfl)
  all_goals exact h

theorem contextWf_tableReset (args : List Octet) (h : s.ContextWf) :
    (tableReset args s).state.ContextWf := by
  unfold tableReset
  split <;> exact h

theorem contextWf_lineTestEvent (h : s.ContextWf) : s.lineTestEvent.ContextWf := by
  unfold State.lineTestEvent
  split
  · exact h
  · split
    · split
      · exact h
      · split
        · exact h
        · next he =>
          split
          · exact h
          · exact h.moved (not_not.mp he) rfl rfl
    · exact h

/-! #### CTS and DCD -/

theorem contextWf_noteLineChange (h : s.ContextWf) : s.noteLineChange.ContextWf := by
  unfold State.noteLineChange
  split <;> exact h

theorem engine_noteLineChange (s : State) : s.noteLineChange.engine = s.engine :=
  congrArg Drive.engine (drive_noteLineChange s).1

theorem contextWf_ctsChanged (h : s.ContextWf) (a : Bool) : (s.ctsChanged a).ContextWf := by
  have ht : ({ s with cts := a }.noteLineChange).ContextWf := contextWf_noteLineChange h
  unfold State.ctsChanged
  simp only
  split
  · next he => exact ht.moved ((engine_noteLineChange _).trans he) rfl rfl
  · exact ht
  · exact ht

theorem contextWf_dcdChanged (h : s.ContextWf) (a : Bool) : (s.dcdChanged a).ContextWf := by
  have ht : ({ s with dcd := a }.noteLineChange).ContextWf := contextWf_noteLineChange h
  have heng : ({ s with dcd := a }.noteLineChange).engine = s.engine := engine_noteLineChange _
  unfold State.dcdChanged
  simp only
  split
  · exact ht
  · exact contextWf_enterSettling slotFrame_missExchange.context
  · next he =>
    exact contextWf_endTurn (context_of_engine ht (congrArg EngineState.inExchange (heng.trans he)))
  · exact ht

theorem contextWf_ctsLostEvent (h : s.ContextWf) : s.ctsLostEvent.ContextWf := by
  unfold State.ctsLostEvent
  split
  · exact contextWf_enterFault context_abandonExchange _
  · exact h

/-! #### The framer's points -/

theorem contextWf_lastCrcOctetSent (h : s.ContextWf) : s.lastCrcOctetSent.ContextWf := by
  unfold State.lastCrcOctetSent
  split
  · exact h
  · split
    · exact h.congr rfl Option.isSome_map
    · exact h

/-- At the last pad a GROUP exchange ends, and the others go on in LISTENING (R138). -/
theorem contextWf_turnRound (h : s.ContextWf) (he : s.engine = .sending) (c : Context) :
    (s.turnRound c).ContextWf := by
  unfold State.turnRound
  split
  · exact contextWf_endTurn (context_endContext _ _)
  all_goals exact h.moved he rfl rfl

theorem contextWf_testSent (h : s.ContextWf) (he : s.engine = .testing) (l : LineTest) :
    (s.testSent l).ContextWf := by
  unfold State.testSent
  simp only
  split
  · exact contextWf_endTest (context_of_engine h (congrArg _ he)) _
  · split <;> exact h

theorem contextWf_lastPadOctetEnded (h : s.ContextWf) : s.lastPadOctetEnded.ContextWf := by
  unfold State.lastPadOctetEnded
  split
  · exact h
  · split
    · split
      · next c he _ =>
        split
        · exact h
        · exact contextWf_turnRound h he c
      · next l he _ => exact contextWf_testSent h he l
      · exact h
    · exact h

/-! #### Timer expiries -/

theorem contextWf_gapTimerExpiry (h : s.ContextWf) : s.gapTimerExpiry.ContextWf := by
  unfold State.gapTimerExpiry
  split
  · next hg => exact h.moved hg.1 rfl rfl
  · exact h

theorem contextWf_ctsTimerExpiry (h : s.ContextWf) : s.ctsTimerExpiry.ContextWf := by
  unfold State.ctsTimerExpiry
  split
  · exact contextWf_enterFault context_abandonExchange _
  · exact h

theorem contextWf_replyTimerExpiry (h : s.ContextWf) : s.replyTimerExpiry.ContextWf := by
  unfold State.replyTimerExpiry
  split
  · split
    case h_1 => exact contextWf_endTurn slotFrame_missExchange.context
    case h_2 he => exact contextWf_endTest (context_of_engine h (congrArg _ he)) _
    all_goals exact h
  · exact h

theorem contextWf_settleTimerExpiry (h : s.ContextWf) : s.settleTimerExpiry.ContextWf := by
  unfold State.settleTimerExpiry
  split
  · next hs => exact contextWf_enterFault (context_of_engine h (congrArg _ hs.1)) _
  · exact h

theorem contextWf_probeTimerExpiry (h : s.ContextWf) : s.probeTimerExpiry.ContextWf := by
  unfold State.probeTimerExpiry
  split
  · simp only
    split <;> exact h
  · exact h

/-! #### Selection -/

/-- A selection that begins an exchange creates its context and enters SENDING or RAISING (R51, R136). -/
theorem contextWf_beginExchange (s : State) (x : Exchange) : (s.beginExchange x).ContextWf := by
  cases hc : s.cts <;> simp [State.ContextWf, State.beginExchange, hc, EngineState.inExchange]

theorem Passes.contextWf (hp : Passes s t) (h : s.ContextWf) : t.ContextWf := by
  obtain ⟨_, _, _, _, _, rfl, _⟩ := hp
  exact h

theorem contextWf_select (h : s.ContextWf) : s.select.ContextWf := by
  obtain e | ⟨_, _, _, e⟩ | ⟨x, _, _, _, e⟩ := select_cases s
  · rw [e]; exact h
  · rw [e]; exact choose_fits.1.contextWf h
  · rw [e]; exact contextWf_beginExchange _ x

/-! #### The receiver's events -/

theorem contextWf_octetAlignmentTaken (h : s.ContextWf) (bits : List Bool) :
    (s.octetAlignmentTaken bits).ContextWf := by
  unfold State.octetAlignmentTaken
  split <;> exact h

theorem contextWf_alignmentGivenUp (h : s.ContextWf) (o : Octet) :
    (s.alignmentGivenUp o).ContextWf := by
  unfold State.alignmentGivenUp
  split <;> exact h

theorem contextWf_leadDetected (h : s.ContextWf) : s.leadDetected.ContextWf := by
  unfold State.leadDetected
  split
  · split
    · next he => exact h.moved he rfl rfl
    · exact h
  · exact h

theorem contextWf_bodyOctetDecoded (h : s.ContextWf) (o : Octet) :
    (s.bodyOctetDecoded o).ContextWf := by
  unfold State.bodyOctetDecoded
  split
  · split <;> exact h
  · exact h

theorem contextWf_testJudged (h : s.ContextWf) (he : s.engine = .testing) (l : LineTest)
    (rx : Receiver) (j : Judgement) : (s.testJudged l rx j).ContextWf := by
  unfold State.testJudged
  simp only
  split
  · exact contextWf_endTest (context_of_engine h (congrArg _ he)) _
  · exact h

theorem contextWf_blockJudged (h : s.ContextWf) (o : Octet) : (s.blockJudged o).ContextWf := by
  unfold State.blockJudged
  split
  · split
    · exact h
    · next rx j _ =>
      split
      · exact contextWf_enterSettling (context_endContext _ _)
      · next l he _ => exact contextWf_testJudged h he l rx j
      · exact h
  · exact h

/-! #### An octet time, and every command -/

theorem contextLaw : TimeLaw State.ContextWf fun _ => True where
  short _ _ := trivial
  hunt hs _ _ := hs
  bits hs _ _ := hs
  lead := contextWf_leadDetected
  given o hs := contextWf_alignmentGivenUp hs o
  body o hs := contextWf_bodyOctetDecoded hs o
  judged o hs := contextWf_blockJudged hs o
  select := contextWf_select
  count hs := hs
  crc := contextWf_lastCrcOctetSent
  advance hs _ := hs
  pad := contextWf_lastPadOctetEnded
  cut := contextWf_ctsLostEvent
  cts := contextWf_ctsTimerExpiry
  reply := contextWf_replyTimerExpiry
  settle := contextWf_settleTimerExpiry
  gap := contextWf_gapTimerExpiry
  probe := contextWf_probeTimerExpiry

theorem contextWf_complete (n : CommandName) (body : List Octet → State → Completion)
    (hb : ∀ args, (body args s).state.ContextWf) (h : s.ContextWf) :
    (s.complete n body).ContextWf := by
  obtain e | ⟨_, _, _, e⟩ | ⟨args, _, _, e⟩ := s.complete_cases n body
  · rw [e]; exact h
  · rw [e]; exact h
  · rw [e]; exact hb args

theorem contextWf_completeModify (f : Octet) (rule : Slot → Octet → State → Completion)
    (hr : ∀ i v, SameLine s (rule i v s).state) (h : s.ContextWf) :
    (s.completeModify f rule).ContextWf := by
  unfold State.completeModify
  split
  · split
    · exact contextWf_complete _ _ (fun args => (sameLine_modifyStation rule args hr).contextWf h) h
    · exact h
  · exact h

theorem contextWf_portWrite (h : s.ContextWf) (ht : t.ContextWf) : (s.portWrite t).ContextWf := by
  unfold State.portWrite
  split
  · exact h
  · exact ht

theorem contextWf_portReadStep (o : Octet) (h : s.ContextWf) (ht : t.ContextWf) :
    (s.portReadStep o t).ContextWf := by
  unfold State.portReadStep
  split
  · exact h
  · exact ht

/-- Every command keeps the context with the engine's state (R51). -/
theorem contextWf_exec (c : Instr) (he : exec c s = .next t) (h : s.ContextWf) : t.ContextWf := by
  have hsame : ∀ (n : CommandName) (body : List Octet → State → Completion),
      (∀ args, SameLine s (body args s).state) → (s.complete n body).ContextWf :=
    fun n body hb => contextWf_complete n body (fun args => (hb args).contextWf h) h
  cases c <;> cases he
  case acceptance => exact contextWf_portWrite h (by split <;> exact h)
  case argumentWrite => exact contextWf_portWrite h (by split <;> exact h)
  case resultRead => exact contextWf_portReadStep _ h (by split <;> exact h)
  case unknownCommand =>
    split
    · split <;> exact h
    · exact h
  case admitStation => exact hsame _ _ sameLine_admitStation
  case findStation => exact hsame _ _ sameLine_findStation
  case readStation => exact hsame _ _ fun _ => sameLine_withSlot _ _ fun _ => .refl s
  case modifyStationAddress => exact contextWf_completeModify _ _ sameLine_modifyAddress h
  case modifyStationGroup => exact contextWf_completeModify _ _ sameLine_modifyGroup h
  case modifyStationQuietLimit => exact contextWf_completeModify _ _ (fun _ _ => ⟨rfl, .inl rfl⟩) h
  case modifyStationClearCounters =>
    exact contextWf_completeModify _ _ (fun _ _ => ⟨rfl, .inl rfl⟩) h
  case holdStation => exact hsame _ _ sameLine_holdStation
  case releaseStation => exact hsame _ _ sameLine_releaseStation
  case retireStation => exact hsame _ _ sameLine_retireStation
  case syncStation => exact hsame _ _ sameLine_syncStation
  case tableReset => exact contextWf_complete _ _ (fun args => contextWf_tableReset args h) h
  case ringInsert => exact hsame _ _ sameLine_ringInsert
  case ringRemove => exact hsame _ _ sameLine_ringRemove
  case ringRead => exact hsame _ _ sameLine_ringRead
  case ringStatus => exact hsame _ _ fun _ => .refl s
  case pollNow => exact hsame _ _ sameLine_pollNow
  case queueText => exact hsame _ _ sameLine_queueText
  case queueGroupText => exact hsame _ _ sameLine_queueGroupText
  case cancelText => exact hsame _ _ sameLine_cancelText
  case clearStaging => exact hsame _ _ fun _ => ⟨rfl, .inr rfl⟩
  case readInbound => exact hsame _ _ sameLine_readInbound
  case releaseInbound => exact hsame _ _ sameLine_releaseInbound
  case bufferStatus => exact hsame _ _ fun _ => .refl s
  case nextAttention => exact hsame _ _ sameLine_nextAttention
  case startLine => exact contextWf_complete _ _ (fun args => contextWf_startLine args h) h
  case stopLine => exact contextWf_complete _ _ (fun _ => contextWf_stopLine h) h
  case abortLine =>
    exact contextWf_complete _ _ (fun _ => contextWf_enterStopped context_abandonExchange true) h
  case lineTest => exact contextWf_lineTestEvent h
  case stagingTextWrite => exact contextWf_portWrite h (by split <;> exact h)
  case inboundTextRead => exact contextWf_portReadStep _ h h
  case causeClearWrite => exact contextWf_portWrite h h
  case maskWrite => exact contextWf_portWrite h h
  case parameterIndexWrite => exact contextWf_portWrite h h
  case parameterDataRead => exact contextWf_portReadStep _ h h
  case parameterDataWrite => exact contextWf_portWrite h (by split <;> exact h)
  case lineStatusRead => exact contextWf_portReadStep _ h h
  case lineStatusPortWrite => exact h
  case masterReset => exact contextWf_of_none rfl rfl
  case rstReleased => exact h
  case ctsChange a =>
    split
    · exact h
    · exact contextWf_ctsChanged h a
  case dcdChange a =>
    split
    · exact h
    · exact contextWf_dcdChanged h a
  case ctsLost => exact contextLaw.cut h
  case selection => exact contextLaw.select h
  case lastCrcOctetSent => exact contextLaw.crc h
  case lastPadOctetEnded => exact contextLaw.pad h
  case leadDetected => exact contextLaw.lead h
  case blockJudged o => exact contextLaw.judged o h
  case gapTimerExpiry => exact contextLaw.gap h
  case ctsTimerExpiry => exact contextLaw.cts h
  case replyTimerExpiry => exact contextLaw.reply h
  case settleTimerExpiry => exact contextLaw.settle h
  case probeTimerExpiry => exact contextLaw.probe h
  case octetAlignmentTaken bits => exact contextWf_octetAlignmentTaken h bits
  case alignmentGivenUp o => exact contextLaw.given o h
  case bodyOctetDecoded o => exact contextLaw.body o h

end

/-- Settles O8: event by event, a queued command by its own meaning and an octet time by the acts it is made of. -/
theorem contextExactlyInAnExchange : Obligations.ContextExactlyInAnExchange := by
  unfold Obligations.ContextExactlyInAnExchange
  intro s t h he
  unfold step at he
  split at he
  · exact contextWf_exec _ he h
  · cases he; exact contextLaw.octetTime h

end Sys2Proof.Machine
end

section
namespace Sys2Proof.Machine

/-! ### The framer's two points in an exchange (R74, R80, R120, R138) -/

section
variable {s : State} {c : Context} {f : Frame} {b : BufferNo} {a : Octet} {x : List Octet} {n : Nat}

theorem lastCrcOctetSent_of_sending (he : s.engine = .sending) (hc : s.context = some c)
    (hf : s.framer = some f) (hs : f.sent < f.crcEnd) :
    s.lastCrcOctetSent =
      { s with
        framer := some { f with sent := f.crcEnd }
        context := some { c with point := .whollySent } } := by
  simp only [State.lastCrcOctetSent, hf, he, hc, Option.map_some, true_or, true_and, if_pos hs]

theorem lastPadOctetEnded_of_sending (he : s.engine = .sending) (hc : s.context = some c)
    (hf : s.framer = some f) (hs : f.crcEnd ≤ f.sent) (hl : s.ctsLoss = false) :
    s.lastPadOctetEnded = s.turnRound c := by
  simp only [State.lastPadOctetEnded, hf, he, hc, if_pos hs, hl, if_neg Bool.false_ne_true]

/-- An exchange with a slot turns round to await its reply (R138). -/
theorem turnRound_of_slot (h : c.exchange.slot?.isSome = true) :
    s.turnRound c =
      { s with
        engine := .listening, framer := none
        receiver := { Receiver.off with phase := .hunting }
        replyTimer := some { period := s.params.replyTimeout.toNat, count := 0 } } := by
  unfold State.turnRound
  split
  · next hb => rw [hb] at h; cases h
  all_goals rfl

/-- A GROUP exchange ends SENT, and its turn with it (R74, R138). -/
theorem turnRound_of_group (h : c.exchange = .group b) :
    s.turnRound c = State.endTurn { s.applySent b with context := none } := by
  simp only [State.turnRound, h, State.endContext, Exchange.slot?]

theorem applySent_of_repeats (hb : s.buffers[b.val] = .group a x n) (hn : 1 < n) :
    s.applySent b = { s with buffers := s.buffers.set b.val (.group a x (n - 1)) } := by
  simp only [State.applySent, hb, if_neg (Nat.not_le.mpr hn)]

/-- The last repeat takes the buffer off the group queue and frees it (R74, R80). -/
theorem applySent_of_last (hb : s.buffers[b.val] = .group a x 1) :
    s.applySent b =
      { s with
        buffers := s.buffers.set b.val .free, groupQueue := s.groupQueue.filter (· != b)
        causeBufferFree := s.causeBufferFree || s.bufferWanted, bufferWanted := false } := by
  simp only [State.applySent, hb, if_pos (Nat.le_refl 1), State.freeBuffer]

end

/-- Settles O51: the CRC's end by the framer, the last pad's by the exchange and the repeats that remain. -/
theorem framerPointsMoveTheExchange : Obligations.FramerPointsMoveTheExchange := by
  unfold Obligations.FramerPointsMoveTheExchange
  intro s c f he hc hf
  refine ⟨fun hs => congrArg Host.Outcome.next (lastCrcOctetSent_of_sending he hc hf hs),
    fun hs hl => ?_⟩
  have hx : exec .lastPadOctetEnded s = .next (s.turnRound c) :=
    congrArg Host.Outcome.next (lastPadOctetEnded_of_sending he hc hf hs hl)
  rw [hx]
  refine ⟨fun h => ?_, fun b a x n h hb hn => ?_, fun b a x h hb => ?_⟩
  · rw [turnRound_of_slot h]
  · rw [turnRound_of_group h, applySent_of_repeats hb hn]
  · rw [turnRound_of_group h, applySent_of_last hb]

end Sys2Proof.Machine
end

section
namespace Sys2Proof.Machine

/-! ### The exchange begun, by its kind (R51, R56 to R59, R114) -/

/-- CONTROL as a number: S in bit 0, A in bit 1, H in bit 2 (R114). -/
theorem controlOctet_eq_ofNat (s a h : Bool) :
    controlOctet s a h = BitVec.ofNat 8 (s.toNat + 2 * a.toNat + 4 * h.toNat) := by
  cases s <;> cases a <;> cases h <;> rfl

theorem controlOctet_none : controlOctet false false false = 0x00 := rfl

section
variable {s : State} {x : Exchange} {c : Context} {control : Octet} {text : Option (List Octet)}
  {bs : Vector OutBuffer Config.outboundBuffers}

/-- The exchange begun, from the parts that its kind gives. -/
theorem beginExchange_eq (hc : s.composeContext x = c)
    (hctl : controlOctet c.sSent c.aSent c.hSent = control) (ht : s.exchangeText x = text)
    (hb : s.buffersInFlight x = bs) :
    s.beginExchange x =
      { s with
        context := some c
        framer := some (buildFrame s.params x.kindCode c.address control text)
        buffers := bs
        engine := if s.cts then .sending else .raising
        ctsTimer := if s.cts then none else startTimer s.params.ctsTimeout.toNat } := by
  subst hc hctl ht hb
  rfl

variable {i o : Slot} {b : BufferNo} {a : Octet} {t : List Octet} {n : Nat}

theorem exchangeText_of_filled (hb : s.buffers[b.val] = .filled o t) :
    s.exchangeText (.text i b) = some t := by
  simp only [State.exchangeText, hb, OutBuffer.text]

theorem buffersInFlight_of_filled (hb : s.buffers[b.val] = .filled o t) :
    s.buffersInFlight (.text i b) = s.buffers.set b.val (.inFlight o t) := by
  simp only [State.buffersInFlight, hb, OutBuffer.takeFlight]

theorem exchangeText_of_group (hb : s.buffers[b.val] = .group a t n) :
    s.exchangeText (.group b) = some t := by
  simp only [State.exchangeText, hb, OutBuffer.text]

theorem composeContext_of_group (hb : s.buffers[b.val] = .group a t n) :
    s.composeContext (.group b) =
      { exchange := .group b, address := a, sSent := false, aSent := false, hSent := false
        point := .notSent } := by
  simp only [State.composeContext, hb, OutBuffer.groupAddress]

end

/-- Settles O55: by the kind of the exchange. -/
theorem selectedExchangeIsComposed : Obligations.SelectedExchangeIsComposed := by
  unfold Obligations.SelectedExchangeIsComposed
  intro s x line block begun
  refine ⟨?poll, ?sync, ?text, ?group⟩
  case poll =>
    rintro i rfl r h
    have hctl : controlOctet false r.inToggle h =
        BitVec.ofNat 8 (2 * r.inToggle.toNat + 4 * h.toNat) := by
      rw [controlOctet_eq_ofNat, Bool.toNat_false, Nat.zero_add]
    rw [beginExchange_eq (x := .poll i) rfl hctl rfl rfl]
    rfl
  case sync =>
    rintro i rfl
    rw [beginExchange_eq (x := .sync i) rfl controlOctet_none rfl rfl]
    rfl
  case text =>
    rintro i o b t rfl hb r
    rw [beginExchange_eq (x := .text i b) rfl (controlOctet_eq_ofNat r.outToggle r.inToggle false)
      (exchangeText_of_filled hb) (buffersInFlight_of_filled hb)]
    rfl
  case group =>
    rintro b a t n rfl hb
    rw [beginExchange_eq (composeContext_of_group hb) controlOctet_none (exchangeText_of_group hb) rfl]
    rfl

end Sys2Proof.Machine
end

section
namespace Sys2Proof.Machine

/-! ### The port writes that are no command (R77, R106, R108, R168, R170) -/

section
variable {s : State}

/-- A port write while RST# is not low is its own state (R176). -/
theorem exec_of_portWrite {e : Instr} {t : State} (hr : s.rstLow = false)
    (he : exec e s = .next (s.portWrite t)) : exec e s = .next t := by
  rw [he, s.portWrite_of_high t hr]

theorem exec_acceptance_of_busy (o : Octet) (hr : s.rstLow = false)
    (h : s.command.isSome = true) : exec (.acceptance o) s = .next { s with refused := true } :=
  (exec_of_portWrite hr rfl).trans (congrArg _ (if_pos h))

theorem exec_argumentWrite (o : Octet) (hr : s.rstLow = false) :
    exec (.argumentWrite o) s =
      .next (if s.argumentBlock.length < 8 then { s with argumentBlock := s.argumentBlock ++ [o] }
        else { s with argumentOverflow := true }) :=
  exec_of_portWrite hr rfl

theorem exec_stagingTextWrite (o : Octet) (hr : s.rstLow = false) :
    exec (.stagingTextWrite o) s =
      .next (if s.staging.length < 128 then { s with staging := s.staging ++ [o] }
        else { s with stagingOverflow := true }) :=
  exec_of_portWrite hr rfl

/-- The seven MASK bits are the octet's low seven (R108). -/
theorem maskOctet_of_written (s : State) (o : Octet) :
    State.maskOctet { s with mask := o.extractLsb' 0 7 } = o &&& 0x7F := by
  revert o
  show ∀ o : Octet, (o.extractLsb' 0 7).setWidth 8 = o &&& 0x7F
  decide

/-! ### The bits of CAUSE (R103, R106) -/

theorem getLsbD_bitOctet {k : Nat} (j : Nat) (v : Bool) (hk : k < 8) :
    (bitOctet j v).getLsbD k = (v && decide (k = j)) := by
  unfold bitOctet
  cases v
  · simp
  · have h : j ≤ k ∧ k - j = 0 ↔ k = j := by omega
    rw [Bool.eq_iff_iff]
    simpa [hk] using h

/-- The flag that a bit of CAUSE shows (R103). -/
def State.causeFlag (s : State) : Nat → Bool
  | 0 => s.causeAttention
  | 1 => s.causeInbound
  | 2 => s.causeDone
  | 3 => s.causeBufferFree
  | 4 => s.causeLineStopped
  | 5 => s.causeLineFault
  | 6 => s.lineChange
  | _ => false

theorem getLsbD_causeOctet {k : Nat} (hk : k < 8) : s.causeOctet.getLsbD k = s.causeFlag k := by
  simp only [State.causeOctet, BitVec.getLsbD_or, getLsbD_bitOctet _ _ hk]
  interval_cases k <;> simp [State.causeFlag]

/-- The sticky causes that an octet names cleared (R106). -/
def State.causesCleared (s : State) (o : Octet) : State :=
  { s with
    causeDone := s.causeDone && !o.getLsbD 2
    causeBufferFree := s.causeBufferFree && !o.getLsbD 3
    causeLineStopped := s.causeLineStopped && !o.getLsbD 4
    causeLineFault := s.causeLineFault && !o.getLsbD 5
    lineChange := s.lineChange && !o.getLsbD 6 }

theorem exec_causeClearWrite (o : Octet) (hr : s.rstLow = false) :
    exec (.causeClearWrite o) s = .next (s.causesCleared o) :=
  exec_of_portWrite hr rfl

theorem causeOctet_causesCleared (s : State) (o : Octet) :
    (s.causesCleared o).causeOctet = s.causeOctet &&& ~~~(o &&& 0x7C) := by
  apply BitVec.eq_of_getLsbD_eq
  intro k hk
  simp only [BitVec.getLsbD_and, BitVec.getLsbD_not, getLsbD_causeOctet hk, hk]
  interval_cases k <;>
    simp [State.causeFlag, State.causesCleared, State.causeAttention, State.causeInbound]

end

/-- Settles O22: write by write, the two stores by the room there is. -/
theorem portWritesReachTheirOwnState : Obligations.PortWritesReachTheirOwnState := by
  unfold Obligations.PortWritesReachTheirOwnState
  intro s o hr
  refine ⟨exec_acceptance_of_busy o hr,
    fun h => (exec_argumentWrite o hr).trans (congrArg _ (if_pos h)),
    fun h => (exec_argumentWrite o hr).trans (congrArg _ (if_neg (Nat.not_lt.mpr h))),
    fun h => (exec_stagingTextWrite o hr).trans (congrArg _ (if_pos h)),
    fun h => (exec_stagingTextWrite o hr).trans (congrArg _ (if_neg (Nat.not_lt.mpr h))),
    ⟨s.causesCleared o, exec_causeClearWrite o hr, causeOctet_causesCleared s o, rfl⟩,
    ⟨_, exec_of_portWrite hr rfl, maskOctet_of_written s o, rfl⟩, rfl⟩

/-! ### The port reads (R91, R130, R152, R156, R173) -/

section
variable {s : State} {o : Octet} {x : InboundText} {rest : List InboundText}

/-- A port read while RST# is not low leaves its own state with the octet on the data bus (R176, log 5). -/
theorem exec_of_portReadStep {e : Instr} {t : State} (hr : s.rstLow = false)
    (he : exec e s = .next (s.portReadStep o t)) : exec e s = .next { t with dataOut := o } := by
  rw [he, s.portReadStep_of_high t o hr]

theorem exec_resultRead_of_octet (hr : s.rstLow = false)
    (h : s.result[s.resultCursor]? = some o) :
    exec .resultRead s = .next { s with dataOut := o, resultCursor := s.resultCursor + 1 } := by
  obtain ⟨hlt, _⟩ := List.getElem?_eq_some_iff.mp h
  have ho : s.resultOctet = o := by simp [State.resultOctet, h]
  rw [exec_of_portReadStep hr rfl, ho, if_pos hlt]

theorem exec_resultRead_of_end (hr : s.rstLow = false) (h : s.result.length ≤ s.resultCursor) :
    exec .resultRead s = .next { s with dataOut := 0 } := by
  have ho : s.resultOctet = 0 := by simp [State.resultOctet, h]
  rw [exec_of_portReadStep hr rfl, ho, if_neg (Nat.not_lt.mpr h)]

theorem exec_inboundTextRead_of_octet (hr : s.rstLow = false) (hi : s.inbound = x :: rest)
    (h : x.text[s.inboundCursor]? = some o) :
    exec .inboundTextRead s =
      .next { s with dataOut := o, inboundCursor := s.inboundCursor + 1 } := by
  obtain ⟨hlt, _⟩ := List.getElem?_eq_some_iff.mp h
  have ho : s.inboundOctet = o := by simp [State.inboundOctet, hi, h]
  have hc : s.inboundCursorAfterRead = s.inboundCursor + 1 := by
    simp [State.inboundCursorAfterRead, hi, hlt]
  rw [exec_of_portReadStep hr rfl, ho, hc]

/-- Past the head text, or with no text, a read gives 0x00 and moves nothing (R91). -/
theorem exec_inboundTextRead_of_end (hr : s.rstLow = false)
    (h : ∀ x ∈ s.inbound.head?, x.text.length ≤ s.inboundCursor) :
    exec .inboundTextRead s = .next { s with dataOut := 0 } := by
  obtain ⟨ho, hc⟩ : s.inboundOctet = 0 ∧ s.inboundCursorAfterRead = s.inboundCursor := by
    cases hi : s.inbound with
    | nil => simp [State.inboundOctet, State.inboundCursorAfterRead, hi]
    | cons x rest =>
      have hx : x.text.length ≤ s.inboundCursor := h x (by rw [hi]; rfl)
      simp [State.inboundOctet, State.inboundCursorAfterRead, hi, hx]
  rw [exec_of_portReadStep hr rfl, ho, hc]

theorem lowOctet_eq (w : Word16) : lowOctet w = w.setWidth 8 :=
  (BitVec.setWidth_eq_extractLsb' (by decide)).symm

theorem highOctet_eq (w : Word16) : highOctet w = (w >>> 8).setWidth 8 := by
  apply BitVec.eq_of_getLsbD_eq
  intro k hk
  simp [highOctet, hk]

/-- The Parameter File as its indexes show it (R154). -/
def Params.octets (p : Params) : List Octet :=
  [p.leadOctet, p.prefixOctet, p.leadCount, p.padCount, p.clockSource.code, lowOctet p.divisor,
   highOctet p.divisor, p.replyTimeout, p.ctsTimeout, p.turnaroundGap, p.probeInterval,
   p.suspectThreshold, p.lostThreshold, p.retryLimit, p.groupRepeat, p.lastFault.code]

theorem readAt_eq_octets (p : Params) (k : Octet) : p.readAt k = p.octets.getD k.toNat 0 := by
  by_cases hk : k.toNat < 16
  · obtain ⟨n, hn, rfl⟩ : ∃ n < 16, k = BitVec.ofNat 8 n := ⟨k.toNat, hk, by simp⟩
    interval_cases n <;> rfl
  · have hne (v : Octet) (hv : v.toNat < 16) : k ≠ v := by rintro rfl; exact hk hv
    rw [List.getD_eq_default _ _ (by simpa [Params.octets] using hk)]
    simp [Params.readAt, hne]

theorem exec_lineStatusRead (hr : s.rstLow = false) :
    exec .lineStatusRead s = .next { s with dataOut := s.lineStatusOctet, lineChange := false } :=
  exec_of_portReadStep (t := { s with lineChange := false }) hr rfl

/-- LINE STATUS: the engine's number in the high half, the flag and the signals in the low (R152). -/
theorem toNat_lineStatus (e : EngineState) (l d c r : Bool) :
    (e.code <<< 4 ||| bitOctet 3 l ||| bitOctet 2 d ||| bitOctet 1 c ||| bitOctet 0 r).toNat =
      16 * e.code.toNat + 8 * l.toNat + 4 * d.toNat + 2 * c.toNat + r.toNat := by
  revert l d c r
  cases e <;> decide

end

/-- Settles O23: read by read, RESULT and INBOUND TEXT by what stands at their cursor. -/
theorem portReadsReturnAndAdvance : Obligations.PortReadsReturnAndAdvance := by
  unfold Obligations.PortReadsReturnAndAdvance
  refine ⟨rfl, fun s hr => ⟨fun o h => exec_resultRead_of_octet hr h, exec_resultRead_of_end hr,
    fun x rest o hi h => exec_inboundTextRead_of_octet hr hi h, exec_inboundTextRead_of_end hr,
    ?_, s.lineStatusOctet, exec_lineStatusRead hr, toNat_lineStatus _ _ _ _ _⟩⟩
  rw [exec_of_portReadStep hr rfl, readAt_eq_octets, Params.octets, lowOctet_eq, highOctet_eq]
  cases s.params.clockSource <;> rfl

end Sys2Proof.Machine
end

section
namespace Sys2Proof.Machine

/-! ### The text commands by their checks (R78, R80, R82, R84, R86) -/

section
variable {s : State} {i : Slot} {b : BufferNo} {a : Octet}

theorem lowestFreeBuffer_eq_some :
    s.lowestFreeBuffer = some b ↔
      s.buffers[b.val] = .free ∧ ∀ d : BufferNo, d < b → s.buffers[d.val] ≠ .free := by
  rw [State.lowestFreeBuffer, find_finRange_eq_some]
  simp

theorem lowestFreeBuffer_eq_none :
    s.lowestFreeBuffer = none ↔ ∀ d : BufferNo, s.buffers[d.val] ≠ .free := by
  rw [State.lowestFreeBuffer, find_finRange_eq_none]
  simp

theorem stagingQueueable_iff :
    s.stagingQueueable = true ↔ s.staging ≠ [] ∧ s.stagingOverflow = false := by
  simp [State.stagingQueueable]

theorem stagingQueueable_eq_false :
    s.stagingQueueable = false ↔ s.staging = [] ∨ s.stagingOverflow = true := by
  rw [← Bool.not_eq_true, stagingQueueable_iff, not_and_or, not_ne_iff, Bool.not_eq_false]

/-- A text is taken for an enlisted station that is not LOST (R82). -/
theorem Lifecycle.takesText_iff {l : Lifecycle} :
    l.takesText = true ↔ l.isEnlisted = true ∧ l ≠ .inService .lost := by
  cases l with
  | inService st => cases st <;> simp [Lifecycle.takesText, Lifecycle.isEnlisted]
  | free | held _ | retiring => simp [Lifecycle.takesText, Lifecycle.isEnlisted]

theorem Lifecycle.takesText_eq_false {l : Lifecycle} :
    l.takesText = false ↔ l.isEnlisted = false ∨ l = .inService .lost := by
  rw [← Bool.not_eq_true, Lifecycle.takesText_iff, not_and_or, not_ne_iff, Bool.not_eq_true]

theorem isGroupAddress_iff : isGroupAddress a = true ↔ 0xF0 ≤ a.toNat := decide_eq_true_iff

theorem isGroupAddress_eq_false : isGroupAddress a = false ↔ a.toNat < 0xF0 := by
  rw [← Bool.not_eq_true, isGroupAddress_iff, not_le]

/-- A buffer filled from a staging text that did not overflow. -/
theorem fillBuffer_of_not_overflow (h : s.stagingOverflow = false) (x : OutBuffer) :
    s.fillBuffer b x = { s with buffers := s.buffers.set b.val x, staging := [] } := by
  simp only [State.fillBuffer, State.emptyStaging, ← h]

/-! QUEUE TEXT: the state, the text pending, the staging text, the free pool (R82). -/

theorem queueText_of_wrongState (hs : (s.record i).state.takesText = false) :
    queueText [slotOctet i] s = refuse s .wrongState := by
  simp [queueText, argument, hs]

theorem queueText_of_pending (hs : (s.record i).state.takesText = true)
    (ht : (s.record i).outboundText.isSome = true) :
    queueText [slotOctet i] s = refuse s .textPending := by
  simp [queueText, argument, hs, ht]

theorem queueText_of_unqueueable (hs : (s.record i).state.takesText = true)
    (ht : (s.record i).outboundText = none) (hq : s.stagingQueueable = false) :
    queueText [slotOctet i] s = refuse s .length := by
  simp [queueText, argument, hs, ht, hq]

theorem queueText_of_noBuffer (hs : (s.record i).state.takesText = true)
    (ht : (s.record i).outboundText = none) (hq : s.stagingQueueable = true)
    (hb : s.lowestFreeBuffer = none) : queueText [slotOctet i] s = refuseNoBuffer s := by
  simp [queueText, argument, hs, ht, hq, hb]

theorem queueText_of_taken (hs : (s.record i).state.takesText = true)
    (ht : (s.record i).outboundText = none) (hq : s.stagingQueueable = true)
    (hb : s.lowestFreeBuffer = some b) :
    queueText [slotOctet i] s = answer
      ((s.modRecord i fun r =>
        { r with outboundText := some b, retryCount := 0, cancelRequested := false }).fillBuffer b
          (.filled i s.staging)) .ok [octetOfNat b.val] := by
  simp [queueText, argument, hs, ht, hq, hb]

/-! QUEUE GROUP TEXT: the address, the staging text, the free pool (R84). -/

theorem queueGroupText_of_badAddress (ha : isGroupAddress a = false) :
    queueGroupText [a] s = refuse s .badAddress :=
  if_pos ha

theorem queueGroupText_of_unqueueable (ha : isGroupAddress a = true)
    (hq : s.stagingQueueable = false) : queueGroupText [a] s = refuse s .length := by
  simp [queueGroupText, argument, ha, hq]

theorem queueGroupText_of_noBuffer (ha : isGroupAddress a = true)
    (hq : s.stagingQueueable = true) (hb : s.lowestFreeBuffer = none) :
    queueGroupText [a] s = refuseNoBuffer s := by
  simp [queueGroupText, argument, ha, hq, hb]

theorem queueGroupText_of_taken (ha : isGroupAddress a = true) (hq : s.stagingQueueable = true)
    (hb : s.lowestFreeBuffer = some b) :
    queueGroupText [a] s = answer
      { s.fillBuffer b (.group a s.staging s.params.groupRepeat.toNat) with
        groupQueue := s.groupQueue ++ [b] } .ok [octetOfNat b.val] := by
  simp [queueGroupText, argument, ha, hq, hb]

/-! CANCEL TEXT: the state, the text named, and whether it is IN FLIGHT (R86). -/

theorem cancelText_of_wrongState (hs : (s.record i).state = .free) :
    cancelText [slotOctet i] s = refuse s .wrongState := by
  simp [cancelText, argument, hs]

theorem cancelText_of_noText (hs : (s.record i).state ≠ .free)
    (ht : (s.record i).outboundText = none) : cancelText [slotOctet i] s = refuse s .noText := by
  simp [cancelText, argument, hs, ht]

theorem cancelText_of_inFlight (hs : (s.record i).state ≠ .free)
    (ht : (s.record i).outboundText = some b) (hb : s.buffers[b.val].isInFlight = true) :
    cancelText [slotOctet i] s =
      answer (s.modRecord i fun r => { r with cancelRequested := true }) .pending [] := by
  simp [cancelText, argument, hs, ht, textInFlight_of_some ht, hb]

theorem cancelText_of_landed (hs : (s.record i).state ≠ .free)
    (ht : (s.record i).outboundText = some b) (hb : s.buffers[b.val].isInFlight = false) :
    cancelText [slotOctet i] s = answer (s.cancelFilled i) .cancelled [] := by
  simp [cancelText, argument, hs, ht, textInFlight_of_some ht, hb]

/-- The text cancelled: freed, with resync pending where it had been sent before (R86). -/
theorem cancelFilled_of_some (ht : (s.record i).outboundText = some b) :
    s.cancelFilled i = (s.bufferFreed b).setRecord i
      { (s.record i).textFreed with
        resyncPending :=
          (s.record i).resyncPending || decide (0 < (s.record i).retryCount) } := by
  unfold State.cancelFilled
  rw [s.freeText_eq_bufferFreed i b ht]
  split
  · next h => simp [Record.textFreed, h]
  · next h => simp [State.setResync, State.modRecord, Nat.pos_of_ne_zero h]

end

/-- A queue command without a FREE buffer sets buffer-wanted and answers NO BUFFER without data (R80). -/
theorem complete_of_noBuffer {s : State} {n : CommandName} {args : List Octet}
    {body : List Octet → State → Completion} (h : s.inHand n.row.code args)
    (hn : args.length = n.row.args) (hb : body args s = refuseNoBuffer s) :
    s.complete n body = { s with bufferWanted := true }.answered
      (ResultCode.noBuffer.octet :: List.replicate (n.row.length - 1) 0) := by
  rw [s.complete_of_inHand n args body h hn, hb, ← resultOctets_nil]
  rfl

/-- Settles O40: the staging text queueable and a buffer FREE, each command carries out its rule. -/
theorem stagingTextIsQueuedOrCleared : Obligations.StagingTextIsQueuedOrCleared := by
  unfold Obligations.StagingTextIsQueuedOrCleared
  refine ⟨fun s h => ?_, fun s b hfree hlow hne hov => ?_⟩
  · exact congrArg Host.Outcome.next
      (complete_of_answered (n := .clearStaging) (body := clearStaging) h rfl rfl rfl)
  have hb : s.lowestFreeBuffer = some b := lowestFreeBuffer_eq_some.mpr ⟨hfree, hlow⟩
  have hq : s.stagingQueueable = true := stagingQueueable_iff.mpr ⟨hne, hov⟩
  refine ⟨fun i h he hl ht => ?_, fun a h ha => ?_⟩
  · have hx := queueText_of_taken (Lifecycle.takesText_iff.mpr ⟨he, hl⟩) ht hq hb
    rw [fillBuffer_of_not_overflow (by exact hov)] at hx
    exact congrArg Host.Outcome.next (complete_of_answered (n := .queueText) h rfl hx rfl)
  · have hx := queueGroupText_of_taken (isGroupAddress_iff.mpr ha) hq hb
    rw [fillBuffer_of_not_overflow hov] at hx
    exact congrArg Host.Outcome.next (complete_of_answered (n := .queueGroupText) h rfl hx rfl)

/-- Settles O41: by the state of the buffer that the record names. -/
theorem cancelTextWithdrawsTheText : Obligations.CancelTextWithdrawsTheText := by
  unfold Obligations.CancelTextWithdrawsTheText
  intro s i o b x h hs ht
  refine ⟨fun hb => ?filled, fun hb => ?inFlight⟩
  case filled =>
    have hx := cancelText_of_landed hs ht (by rw [hb]; rfl)
    rw [cancelFilled_of_some ht] at hx
    exact congrArg Host.Outcome.next (complete_of_answered (n := .cancelText) h rfl hx rfl)
  case inFlight =>
    have hx := cancelText_of_inFlight hs ht (by rw [hb]; rfl)
    exact congrArg Host.Outcome.next (complete_of_answered (n := .cancelText) h rfl hx rfl)

/-- Settles O43: each check, with the checks before it passed. -/
theorem textCommandsAreRefused : Obligations.TextCommandsAreRefused := by
  unfold Obligations.TextCommandsAreRefused
  intro s i a
  have hqueue {c : ResultCode} (h : s.inHand 0x30 [slotOctet i])
      (hb : queueText [slotOctet i] s = refuse s c) : s.refuses .queueText c.octet 1 :=
    congrArg Host.Outcome.next (complete_of_refused (n := .queueText) h rfl hb)
  have hgroup {c : ResultCode} (h : s.inHand 0x31 [a])
      (hb : queueGroupText [a] s = refuse s c) : s.refuses .queueGroupText c.octet 1 :=
    congrArg Host.Outcome.next (complete_of_refused (n := .queueGroupText) h rfl hb)
  have hcancel {c : ResultCode} (h : s.inHand 0x32 [slotOctet i])
      (hb : cancelText [slotOctet i] s = refuse s c) : s.refuses .cancelText c.octet 0 :=
    congrArg Host.Outcome.next (complete_of_refused (n := .cancelText) h rfl hb)
  refine ⟨fun h => ⟨fun hs => ?_, fun he hl => ?_⟩,
    fun h => ⟨fun ha => ?_, fun ha hx => ?_, fun ha hne hov hb => ?_⟩,
    fun h => ⟨fun hs => ?_, fun hs ht => ?_⟩⟩
  · exact hqueue h (queueText_of_wrongState (Lifecycle.takesText_eq_false.mpr hs))
  · have hs := Lifecycle.takesText_iff.mpr ⟨he, hl⟩
    refine ⟨fun ht => ?_, fun ht => ⟨fun hx => ?_, fun hne hov hb => ?_⟩⟩
    · exact hqueue h (queueText_of_pending hs ht)
    · exact hqueue h (queueText_of_unqueueable hs ht (stagingQueueable_eq_false.mpr hx))
    · exact congrArg Host.Outcome.next (complete_of_noBuffer (n := .queueText) h rfl
        (queueText_of_noBuffer hs ht (stagingQueueable_iff.mpr ⟨hne, hov⟩)
          (lowestFreeBuffer_eq_none.mpr hb)))
  · exact hgroup h (queueGroupText_of_badAddress (isGroupAddress_eq_false.mpr ha))
  · exact hgroup h (queueGroupText_of_unqueueable (isGroupAddress_iff.mpr ha)
      (stagingQueueable_eq_false.mpr hx))
  · exact congrArg Host.Outcome.next (complete_of_noBuffer (n := .queueGroupText) h rfl
      (queueGroupText_of_noBuffer (isGroupAddress_iff.mpr ha) (stagingQueueable_iff.mpr ⟨hne, hov⟩)
        (lowestFreeBuffer_eq_none.mpr hb)))
  · exact hcancel h (cancelText_of_wrongState hs)
  · exact hcancel h (cancelText_of_noText hs ht)

end Sys2Proof.Machine
end

section
namespace Sys2Proof.Machine

/-! ### One event raises reasons for one slot at most (R98) -/

/-- `t` differs from `s` in no slot's reasons and no slot's place in the attention list, but in those of `i`. -/
structure NotesOnly (i : Slot) (s t : State) : Prop where
  reasons : ∀ j, j ≠ i → (t.record j).reasons = (s.record j).reasons
  attention : t.attention.filter (· != i) = s.attention.filter (· != i)

section
variable {i : Slot} {s t : State}

theorem NotesOnly.trans {u : State} (h : NotesOnly i s t) (h' : NotesOnly i t u) :
    NotesOnly i s u :=
  ⟨fun j hj => (h'.reasons j hj).trans (h.reasons j hj), h'.attention.trans h.attention⟩

theorem SameNotices.notesOnly (h : SameNotices s t) (i : Slot) : NotesOnly i s t :=
  ⟨fun j _ => (h.records j).reasons, by rw [h.attention]⟩

theorem notesOnly_of_records (hr : t.records = s.records) (ha : t.attention = s.attention) :
    NotesOnly i s t :=
  (SameNotices.of_records hr ha).notesOnly i

/-- Raising a reason appends at most the slot itself (R98). -/
theorem notesOnly_raise (r : Reason) : NotesOnly i s (s.raise i r) := by
  refine ⟨fun j hj => by rw [s.record_raise_ne i j r hj], ?_⟩
  cases hm : mayRaise (s.record i).state r with
  | false => rw [s.raise_of_not_mayRaise i r hm]
  | true =>
    rw [attention_raise_of_mayRaise r hm]
    split
    · simp
    · rfl

theorem notesOnly_raiseFailed (c : FailureCause) : NotesOnly i s (s.raiseFailed i c) := by
  refine ⟨fun j hj => by rw [s.record_raiseFailed_ne i j c hj], ?_⟩
  cases hm : mayRaise (s.record i).state .failed with
  | false => rw [s.raiseFailed_of_not_mayRaise i c hm]
  | true => rw [s.raiseFailed_of_mayRaise i c hm]; exact (notesOnly_raise .failed).attention

theorem notesOnly_testRetired : NotesOnly i s (s.testRetired i) := by
  unfold State.testRetired
  split
  · exact notesOnly_raise _
  · exact notesOnly_of_records rfl rfl

/-- The outcomes of an exchange raise reasons for its own slot alone. -/
theorem Touches.notesOnly {G : Prop} (h : Touches G i s t) : NotesOnly i s t := by
  refine ⟨fun j hj => by rw [h.record_ne hj], ?_⟩
  induction h with
  | refl => rfl
  | turn f _ _ _ ih => exact ih
  | raise r _ _ _ ih => exact (notesOnly_raise r).attention.trans ih
  | raiseFailed c _ _ ih => exact (notesOnly_raiseFailed c).attention.trans ih
  | freeText _ ih => rw [State.attention_freeText]; exact ih
  | returnText _ _ ih => rw [State.returnText_frame]; exact ih
  | store a x _ _ _ ih => exact ih
  | follow o _ ih => exact ih

/-- RETIRE STATION empties the slot's own set and takes the slot's own entry off the list (R99). -/
theorem notesOnly_purged : NotesOnly i s (s.purged i) :=
  ⟨fun j hj => by rw [s.record_purged_ne i j hj], by simp [s.attention_purged i]⟩

/-- Each act on the ledger concerns the notices of one slot (R98). -/
theorem Act.notesOnly (h : Act s t) : ∃ i, NotesOnly i s t := by
  obtain hn | ⟨u, i, hn, _, rfl⟩ | ⟨i, _, _, _, _, hj, ha⟩ | ⟨i, _, rfl⟩ |
    ⟨u, c, i, _, hi, ht, rfl⟩ := h.notices
  · exact ⟨⟨0, by decide⟩, hn.notesOnly _⟩
  · exact ⟨i, (hn.notesOnly i).trans notesOnly_testRetired⟩
  · exact ⟨i, fun j hne => by rw [hj j hne], by rw [ha]⟩
  · rw [State.retire_eq]
    exact ⟨i, notesOnly_purged.trans notesOnly_testRetired⟩
  · rw [endContext_of_slot _ _ hi]
    have hend : NotesOnly i u { u with context := none } :=
      notesOnly_of_records rfl rfl
    exact ⟨i, (ht.notesOnly.trans hend).trans notesOnly_testRetired⟩

/-- NEXT ATTENTION takes the notices of the head slot (R101). -/
theorem notesOnly_taken {rest : List Slot} (h : s.attention = i :: rest) :
    NotesOnly i s (s.taken i rest) :=
  ⟨fun j hj => by rw [record_taken_ne hj], by simp [State.taken, h]⟩

/-- What R98 allows one event: no slot but `i` gains a reason or is appended to the attention list. -/
def RaisesFor (i : Slot) (s t : State) : Prop :=
  (∀ j : Slot, j ≠ i → (t.record j).reasons = (s.record j).reasons ∨ (t.record j).reasons = 0) ∧
    (t.attention.filter (· != i)).Sublist s.attention

theorem NotesOnly.raisesFor (h : NotesOnly i s t) : RaisesFor i s t :=
  ⟨fun j hj => .inl (h.reasons j hj), by rw [h.attention]; exact List.filter_sublist⟩

theorem RaisesFor.congr {u : State} (h : RaisesFor i s t) (hu : u.ledger = t.ledger) :
    RaisesFor i s u := by
  have hr := State.record_congr u t (congrArg Ledger.records hu)
  have ha : u.attention = t.attention := congrArg Ledger.attention hu
  exact ⟨fun j hj => by rw [hr j]; exact h.1 j hj, by rw [ha]; exact h.2⟩

/-- An empty table holds no reason and lists no slot (R26, R177). -/
theorem raisesFor_of_free (i : Slot) (hr : ∀ j, t.record j = Record.free)
    (ha : t.attention = []) : RaisesFor i s t :=
  ⟨fun j _ => .inr (by rw [hr j]; rfl), by rw [ha]; exact List.nil_sublist _⟩

theorem raisesFor_self (i : Slot) (s : State) : RaisesFor i s s :=
  (notesOnly_of_records rfl rfl).raisesFor

theorem Reaches.raisesFor (h : Reaches s t) : ∃ i, RaisesFor i s t := by
  obtain ⟨r, u, hr, hu, ht⟩ := h
  obtain ⟨i, hi⟩ := hu.notesOnly
  have hbase : NotesOnly i s r :=
    notesOnly_of_records (congrArg Ledger.records hr.1) (congrArg Ledger.attention hr.1)
  exact ⟨i, (hbase.trans hi).raisesFor.congr ht⟩

theorem raisesFor_nextAttention (args : List Octet) :
    ∃ i, RaisesFor i s (nextAttention args s).state := by
  unfold nextAttention
  split
  · exact ⟨⟨0, by decide⟩, raisesFor_self _ s⟩
  · next i rest h => exact ⟨i, (notesOnly_taken h).raisesFor⟩

theorem raisesFor_tableReset (args : List Octet) :
    ∃ i, RaisesFor i s (tableReset args s).state := by
  refine ⟨⟨0, by decide⟩, ?_⟩
  unfold tableReset
  split
  · exact raisesFor_of_free _ record_emptyTable rfl
  · exact raisesFor_self _ s

/-- The port's part of a completion raises no reason. -/
theorem raisesFor_complete (n : CommandName) (body : List Octet → State → Completion)
    (h : ∀ args, ∃ i, RaisesFor i s (body args s).state) :
    ∃ i, RaisesFor i s (s.complete n body) := by
  obtain e | ⟨_, _, _, e⟩ | ⟨args, _, _, e⟩ := s.complete_cases n body
  · rw [e]; exact ⟨⟨0, by decide⟩, raisesFor_self _ s⟩
  · rw [e]; exact ⟨⟨0, by decide⟩, (raisesFor_self _ s).congr rfl⟩
  · rw [e]
    obtain ⟨i, hi⟩ := h args
    exact ⟨i, hi.congr rfl⟩

end

/-- Settles O14: every command but the three that empty sets is an act on the ledger, and each act raises reasons for the
slot it names alone. -/
theorem oneEventRaisesForOneSlot : Obligations.OneEventRaisesForOneSlot := by
  unfold Obligations.OneEventRaisesForOneSlot
  intro c s t he
  show ∃ i, RaisesFor i s t
  by_cases h1 : c = .nextAttention
  · subst h1; cases he
    exact raisesFor_complete _ _ raisesFor_nextAttention
  by_cases h2 : c = .tableReset
  · subst h2; cases he
    exact raisesFor_complete _ _ raisesFor_tableReset
  by_cases h3 : c = .masterReset
  · subst h3; cases he
    exact ⟨⟨0, by decide⟩, raisesFor_of_free _ record_reset rfl⟩
  · exact (reaches_exec c he h1 h2 h3).raisesFor

end Sys2Proof.Machine
end

section
namespace Sys2Proof.Machine

/-! ### CAUSE, MASK and INT# (R103, R104, R108, R109) -/

/-- MASK has seven enable bits (R108). -/
theorem lt_seven_of_maskOctet {s : State} {k : Nat} (h : s.maskOctet.getLsbD k = true) : k < 7 := by
  by_contra hk
  simp [State.maskOctet, BitVec.getLsbD_of_ge s.mask k (Nat.le_of_not_lt hk)] at h

/-- INT# is asserted where CAUSE and MASK have a bit in common (R109). -/
theorem intAsserted_iff (s : State) :
    s.intAsserted = true ↔
      ∃ k : Nat, k < 7 ∧ s.causeOctet.getLsbD k = true ∧ s.maskOctet.getLsbD k = true := by
  have hzero : s.causeOctet &&& s.maskOctet = 0 ↔
      ∀ k < 8, ¬ (s.causeOctet.getLsbD k = true ∧ s.maskOctet.getLsbD k = true) := by
    simp [BitVec.eq_of_getLsbD_eq_iff]
  rw [State.intAsserted, bne_iff_ne, ne_eq, hzero]
  push Not
  constructor
  · rintro ⟨k, _, hc, hm⟩
    exact ⟨k, lt_seven_of_maskOctet hm, hc, hm⟩
  · rintro ⟨k, hk, hc, hm⟩
    exact ⟨k, by omega, hc, hm⟩

theorem causeAttention_iff (s : State) : s.causeAttention = true ↔ s.attention ≠ [] := by
  simp [State.causeAttention]

theorem causeInbound_iff (s : State) : s.causeInbound = true ↔ s.inbound ≠ [] := by
  simp [State.causeInbound]

/-- Settles O24: INT# by the bits that CAUSE and MASK have in common, and each bit of CAUSE by the flag it shows. -/
theorem interruptFollowsTheMaskedCauses : Obligations.InterruptFollowsTheMaskedCauses := by
  unfold Obligations.InterruptFollowsTheMaskedCauses
  intro s
  have hbit {k : Nat} (hk : k < 8) := getLsbD_causeOctet (s := s) hk
  refine ⟨intAsserted_iff s, ?_, ?_, hbit (by decide), hbit (by decide), hbit (by decide),
    hbit (by decide), hbit (by decide), hbit (by decide)⟩
  · rw [hbit (by decide)]; exact causeAttention_iff s
  · rw [hbit (by decide)]; exact causeInbound_iff s

end Sys2Proof.Machine
end

section
namespace Sys2Proof.Machine

/-! ### Laws of the line: what every event keeps of the engine and the parameters -/

/-- A predicate of the drive, the parameters and the command in progress: what leaves the first two, and a LINE TEST in
progress, keeps it, and so does each event that moves them. -/
structure LineLaw (P : State → Prop) (Short : List Bool → Prop) : Prop extends
    TimeLaw P Short where
  congr : ∀ {s t : State}, P s → t.drive = s.drive → t.params = s.params →
    t.command = s.command ∨ (∀ c ∈ s.command, c.code ≠ 0x53) → P t
  emptied : ∀ {s : State}, P s → P s.emptyTable
  startLine : ∀ {s : State}, P s → s.engine = .stopped ∨ s.engine = .fault → P s.startLine
  stopLine : ∀ {s : State}, P s → P s.stopLine
  abortLine : ∀ {s : State}, P s → P (s.abandonExchange.enterStopped true)
  lineTest : ∀ {s : State}, P s → P s.lineTestEvent
  ctsChanged : ∀ {s : State} (a : Bool), P s → P (s.ctsChanged a)
  dcdChanged : ∀ {s : State} (a : Bool), P s → P (s.dcdChanged a)
  aligned : ∀ {s : State} (bits : List Bool), P s → P (s.octetAlignmentTaken bits)
  written : ∀ {s : State} {o : Octet} {p : Params}, P s →
    s.params.write s.engine s.paramIndex o = some p → P { s with params := p }
  reset : ∀ s : State, P s.heldInReset

theorem command_abandonExchange (s : State) : s.abandonExchange.command = s.command := by
  obtain ⟨_, _, _, _, _, _, _, e⟩ := slotFrame_abandonExchange (s := s)
  rw [e]

theorem command_enterGap (s : State) : s.enterGap.command = s.command := by
  unfold State.enterGap
  split <;> rfl

theorem command_stopLine (s : State) : s.stopLine.command = s.command := by
  unfold State.stopLine
  split <;> rfl

section
variable {P : State → Prop} {Short : List Bool → Prop} {s t : State}

/-- A change of the port and the ledger alone. -/
theorem LineLaw.same (hP : LineLaw P Short) (hs : P s) (hd : t.drive = s.drive)
    (hp : t.params = s.params) (hc : t.command = s.command) : P t :=
  hP.congr hs hd hp (.inl hc)

/-- The completion of another command than LINE TEST (R172). -/
theorem LineLaw.finish (hP : LineLaw P Short) (hs : P s) (hc : ∀ c ∈ s.command, c.code ≠ 0x53)
    (n : Nat) (c : ResultCode) (d : List Octet) : P (s.finish n c d) :=
  hP.congr hs rfl rfl (.inr hc)

theorem LineLaw.complete (hP : LineLaw P Short) (n : CommandName) (hn : n.row.code ≠ 0x53)
    (body : List Octet → State → Completion)
    (hb : ∀ args l c d, (∀ c ∈ s.command, c.code ≠ 0x53) → P ((body args s).state.finish l c d))
    (hs : P s) : P (s.complete n body) := by
  have hcmd : ∀ k, s.command = some k → k.code = n.row.code → ∀ c ∈ s.command, c.code ≠ 0x53 := by
    intro k hk hcode c hc
    obtain rfl : k = c := by simpa [hk] using hc
    rw [hcode]; exact hn
  obtain e | ⟨k, hk, hcode, e⟩ | ⟨args, hi, _, e⟩ := s.complete_cases n body
  · rw [e]; exact hs
  · rw [e]; exact hP.finish hs (hcmd k hk hcode) _ _ _
  · rw [e]; exact hb args _ _ _ (hcmd _ hi rfl)

/-- A command that leaves the line as it is. -/
theorem LineLaw.completeSame (hP : LineLaw P Short) (n : CommandName) (hn : n.row.code ≠ 0x53)
    (body : List Octet → State → Completion) (hb : ∀ args, SameLine s (body args s).state)
    (hs : P s) : P (s.complete n body) :=
  hP.complete n hn body (fun args _ _ _ hc => hP.congr hs
    (congrArg LineSide.drive (hb args).line) (congrArg LineSide.params (hb args).line) (.inr hc)) hs

theorem LineLaw.completeModify (hP : LineLaw P Short) (f : Octet)
    (rule : Slot → Octet → State → Completion) (hr : ∀ i v, SameLine s (rule i v s).state)
    (hs : P s) : P (s.completeModify f rule) := by
  unfold State.completeModify
  split
  · split
    · exact hP.completeSame _ (by decide) _ (fun args => sameLine_modifyStation rule args hr) hs
    · exact hs
  · exact hs

/-! #### The commands that move the line -/

theorem LineLaw.tableResetCommand (hP : LineLaw P Short) (hs : P s) :
    P (s.complete .tableReset tableReset) := by
  refine hP.complete _ (by decide) _ (fun args l c d hc => ?_) hs
  unfold Machine.tableReset
  split
  · exact hP.finish (hP.emptied hs) hc l c d
  · exact hP.finish hs hc l c d

theorem LineLaw.startLineCommand (hP : LineLaw P Short) (hs : P s) :
    P (s.complete .startLine Machine.startLine) := by
  refine hP.complete _ (by decide) _ (fun args l c d hc => ?_) hs
  have hstart : s.engine = .stopped ∨ s.engine = .fault → P (s.startLine.finish l c d) := fun he =>
    hP.finish (hP.startLine hs he) (fun k hk => hc k (command_enterGap s ▸ hk)) l c d
  unfold Machine.startLine
  split
  case h_1 he => exact hstart (.inl he)
  case h_2 he => exact hstart (.inr he)
  all_goals exact hP.finish hs hc l c d

theorem LineLaw.stopLineCommand (hP : LineLaw P Short) (hs : P s) :
    P (s.complete .stopLine Machine.stopLine) :=
  hP.complete _ (by decide) _ (fun _ l c d hc =>
    hP.finish (hP.stopLine hs) (fun k hk => hc k (command_stopLine s ▸ hk)) l c d) hs

theorem LineLaw.abortLineCommand (hP : LineLaw P Short) (hs : P s) :
    P (s.complete .abortLine Machine.abortLine) :=
  hP.complete _ (by decide) _ (fun _ l c d hc =>
    hP.finish (hP.abortLine hs) (fun k hk => hc k (command_abandonExchange s ▸ hk)) l c d) hs

theorem LineLaw.unknownCommand (hP : LineLaw P Short) (he : Machine.exec .unknownCommand s = .next t)
    (hs : P s) : P t := by
  cases he
  split
  · next c hc =>
    split
    · exact hs
    · next hu =>
      refine hP.finish hs (fun k hk e => hu ?_) _ _ _
      obtain rfl : c = k := by simpa [hc] using hk
      rw [e]; decide
  · exact hs

/-! #### The port's accesses -/

theorem LineLaw.portWrite (hP : LineLaw P Short) (hs : P s) (hd : t.drive = s.drive)
    (hp : t.params = s.params) (hc : t.command = s.command) : P (s.portWrite t) := by
  unfold State.portWrite
  split
  · exact hs
  · exact hP.same hs hd hp hc

theorem LineLaw.portReadStep (hP : LineLaw P Short) (o : Octet) (hs : P s) (hd : t.drive = s.drive)
    (hp : t.params = s.params) (hc : t.command = s.command) : P (s.portReadStep o t) := by
  unfold State.portReadStep
  split
  · exact hP.same hs rfl rfl rfl
  · exact hP.same hs hd hp hc

/-- A command is accepted while none is in progress, LINE TEST included (R169, R170). -/
theorem LineLaw.acceptance (hP : LineLaw P Short) (code : Octet)
    (he : Machine.exec (.acceptance code) s = .next t) (hs : P s) : P t := by
  cases he
  unfold State.portWrite
  split
  · exact hs
  · split
    · exact hP.same hs rfl rfl rfl
    · next hb =>
      have hn : s.command = none := Option.not_isSome_iff_eq_none.mp hb
      exact hP.congr hs rfl rfl (.inr fun c hc => by rw [hn] at hc; cases hc)

/-- A write that is taken leaves the parameters it makes (R157). -/
theorem LineLaw.parameterDataWrite (hP : LineLaw P Short) (o : Octet)
    (he : Machine.exec (.parameterDataWrite o) s = .next t) (hs : P s) : P t := by
  cases he
  unfold State.portWrite
  split
  · exact hs
  · split
    · next p hp => exact hP.same (hP.written hs hp) rfl rfl rfl
    · exact hP.same hs rfl rfl rfl

/-! #### Every command -/

theorem LineLaw.exec (hP : LineLaw P Short) (c : Instr) (he : exec c s = .next t) (hs : P s) :
    P t := by
  have hsame : ∀ (n : CommandName) (body : List Octet → State → Completion),
      n.row.code ≠ 0x53 → (∀ args, SameLine s (body args s).state) → P (s.complete n body) :=
    fun n body hn hb => hP.completeSame n hn body hb hs
  cases c <;> cases he
  case acceptance => exact hP.acceptance _ rfl hs
  case argumentWrite => exact hP.portWrite hs (by split <;> rfl) (by split <;> rfl) (by split <;> rfl)
  case resultRead => exact hP.portReadStep _ hs (by split <;> rfl) (by split <;> rfl) (by split <;> rfl)
  case unknownCommand => exact hP.unknownCommand rfl hs
  case admitStation => exact hsame _ _ (by decide) sameLine_admitStation
  case findStation => exact hsame _ _ (by decide) sameLine_findStation
  case readStation => exact hsame _ _ (by decide) fun _ => sameLine_withSlot _ _ fun _ => .refl s
  case modifyStationAddress => exact hP.completeModify _ _ sameLine_modifyAddress hs
  case modifyStationGroup => exact hP.completeModify _ _ sameLine_modifyGroup hs
  case modifyStationQuietLimit => exact hP.completeModify _ _ (fun _ _ => ⟨rfl, .inl rfl⟩) hs
  case modifyStationClearCounters => exact hP.completeModify _ _ (fun _ _ => ⟨rfl, .inl rfl⟩) hs
  case holdStation => exact hsame _ _ (by decide) sameLine_holdStation
  case releaseStation => exact hsame _ _ (by decide) sameLine_releaseStation
  case retireStation => exact hsame _ _ (by decide) sameLine_retireStation
  case syncStation => exact hsame _ _ (by decide) sameLine_syncStation
  case tableReset => exact hP.tableResetCommand hs
  case ringInsert => exact hsame _ _ (by decide) sameLine_ringInsert
  case ringRemove => exact hsame _ _ (by decide) sameLine_ringRemove
  case ringRead => exact hsame _ _ (by decide) sameLine_ringRead
  case ringStatus => exact hsame _ _ (by decide) fun _ => .refl s
  case pollNow => exact hsame _ _ (by decide) sameLine_pollNow
  case queueText => exact hsame _ _ (by decide) sameLine_queueText
  case queueGroupText => exact hsame _ _ (by decide) sameLine_queueGroupText
  case cancelText => exact hsame _ _ (by decide) sameLine_cancelText
  case clearStaging => exact hsame _ _ (by decide) fun _ => ⟨rfl, .inr rfl⟩
  case readInbound => exact hsame _ _ (by decide) sameLine_readInbound
  case releaseInbound => exact hsame _ _ (by decide) sameLine_releaseInbound
  case bufferStatus => exact hsame _ _ (by decide) fun _ => .refl s
  case nextAttention => exact hsame _ _ (by decide) sameLine_nextAttention
  case startLine => exact hP.startLineCommand hs
  case stopLine => exact hP.stopLineCommand hs
  case abortLine => exact hP.abortLineCommand hs
  case lineTest => exact hP.lineTest hs
  case stagingTextWrite =>
    exact hP.portWrite hs (by split <;> rfl) (by split <;> rfl) (by split <;> rfl)
  case inboundTextRead => exact hP.portReadStep _ hs rfl rfl rfl
  case causeClearWrite => exact hP.portWrite hs rfl rfl rfl
  case maskWrite => exact hP.portWrite hs rfl rfl rfl
  case parameterIndexWrite => exact hP.portWrite hs rfl rfl rfl
  case parameterDataRead => exact hP.portReadStep _ hs rfl rfl rfl
  case parameterDataWrite => exact hP.parameterDataWrite _ rfl hs
  case lineStatusRead => exact hP.portReadStep _ hs rfl rfl rfl
  case lineStatusPortWrite => exact hs
  case masterReset => exact hP.reset s
  case rstReleased => exact hP.same hs rfl rfl rfl
  case ctsChange a =>
    split
    · exact hs
    · exact hP.ctsChanged a hs
  case dcdChange a =>
    split
    · exact hs
    · exact hP.dcdChanged a hs
  case ctsLost => exact hP.cut hs
  case selection => exact hP.select hs
  case lastCrcOctetSent => exact hP.crc hs
  case lastPadOctetEnded => exact hP.pad hs
  case leadDetected => exact hP.lead hs
  case blockJudged o => exact hP.judged o hs
  case gapTimerExpiry => exact hP.gap hs
  case ctsTimerExpiry => exact hP.cts hs
  case replyTimerExpiry => exact hP.reply hs
  case settleTimerExpiry => exact hP.settle hs
  case probeTimerExpiry => exact hP.probe hs
  case octetAlignmentTaken bits => exact hP.aligned bits hs
  case alignmentGivenUp o => exact hP.given o hs
  case bodyOctetDecoded o => exact hP.body o hs

/-- Every step keeps the law: a queued command by its own meaning, an octet time by the acts it is made of. -/
theorem LineLaw.step (hP : LineLaw P Short) (he : step s = .next t) (hs : P s) : P t := by
  unfold Machine.step at he
  split at he
  · exact hP.exec _ he (hP.same hs rfl rfl rfl)
  · cases he; exact hP.octetTime hs

end

/-! ### The engine keeps its law (R119, R122, R130, R134, R142, R144) -/

theorem engineLaw : LineLaw State.EngineWf fun _ => True where
  short _ _ := trivial
  hunt hs hp _ := engineWf_huntLoop hs hp _
  bits hs _ _ := engineWf_octetBits hs _
  lead := engineWf_leadDetected
  given o hs := engineWf_alignmentGivenUp hs o
  body o hs := engineWf_bodyOctetDecoded hs o
  judged o hs := engineWf_blockJudged hs o
  select := engineWf_select
  count := engineWf_countTimers
  crc := engineWf_lastCrcOctetSent
  advance := engineWf_advanceFramer
  pad := engineWf_lastPadOctetEnded
  cut := engineWf_ctsLostEvent
  cts := engineWf_ctsTimerExpiry
  reply := engineWf_replyTimerExpiry
  settle := engineWf_settleTimerExpiry
  gap := engineWf_gapTimerExpiry
  probe := engineWf_probeTimerExpiry
  congr hs hd _ hc := hs.congr hd fun e => hc.resolve_right fun hn => hs.not_testing hn e
  emptied hs := hs.noFollowOn.of_drive rfl rfl
  startLine hs he := engineWf_startLine (hs.atRest he)
  stopLine := engineWf_stopLine
  abortLine _ := engineWf_enterStopped context_abandonExchange true
  lineTest := engineWf_lineTestEvent
  ctsChanged a hs := engineWf_ctsChanged hs a
  dcdChanged a hs := engineWf_dcdChanged hs a
  aligned bits hs := engineWf_octetAlignmentTaken hs bits
  written hs _ := hs.of_drive rfl rfl
  reset _ := lineWf_heldInReset.1

/-- Settles O9: each event that moves the engine by its own lemma, every other one because it leaves the drive. -/
theorem engineStaysConsistent : Obligations.EngineStaysConsistent :=
  fun _ _ h he => engineLaw.step he h

end Sys2Proof.Machine
end

section
namespace Sys2Proof.Machine

/-! ### The parameters under every event (R117, R154, R159 to R164) -/

section
variable {s t : State}

theorem SlotFrame.params_eq (h : SlotFrame s t) : t.params = s.params := by
  obtain ⟨_, _, _, _, _, _, _, e⟩ := h
  rw [e]

theorem params_abandonExchange (s : State) : s.abandonExchange.params = s.params :=
  slotFrame_abandonExchange.params_eq

/-! The engine's entries read the parameters, and FAULT writes its code among them (R143). -/

theorem params_enterGap (s : State) : s.enterGap.params = s.params := by
  unfold State.enterGap
  split <;> rfl

theorem params_endTurn (s : State) : s.endTurn.params = s.params := by
  unfold State.endTurn
  split
  · rfl
  · exact params_enterGap s

theorem params_enterSettling (s : State) : s.enterSettling.params = s.params := by
  unfold State.enterSettling
  simp only
  split
  · rfl
  · exact params_endTurn _

/-- Of the parameters, the last fault code alone is not the host's to set, and it is legal whatever it is (R165). -/
theorem legal_enterFault (h : s.params.Legal) (c : FaultCode) : (s.enterFault c).params.Legal := h

theorem params_stopLine (s : State) : s.stopLine.params = s.params := by
  unfold State.stopLine
  split <;> rfl

theorem params_lineTestEvent (s : State) : s.lineTestEvent.params = s.params := by
  unfold State.lineTestEvent
  split
  · rfl
  · split
    · split
      · rfl
      · split
        · rfl
        · split <;> rfl
    · rfl

theorem params_noteLineChange (s : State) : s.noteLineChange.params = s.params := by
  unfold State.noteLineChange
  split <;> rfl

theorem params_ctsChanged (s : State) (a : Bool) : (s.ctsChanged a).params = s.params := by
  unfold State.ctsChanged
  simp only
  split <;> exact params_noteLineChange _

theorem params_dcdChanged (s : State) (a : Bool) : (s.dcdChanged a).params = s.params := by
  have ht : ({ s with dcd := a }.noteLineChange).params = s.params := params_noteLineChange _
  unfold State.dcdChanged
  simp only
  split
  · exact ht
  · exact (params_enterSettling _).trans ((missExchange_keeps _).2.trans ht)
  · exact (params_endTurn _).trans ht
  · exact ht

theorem params_lastCrcOctetSent (s : State) : s.lastCrcOctetSent.params = s.params := by
  unfold State.lastCrcOctetSent
  split
  · rfl
  · split <;> rfl

theorem params_turnRound (s : State) (c : Context) : (s.turnRound c).params = s.params := by
  unfold State.turnRound
  split
  · next b _ =>
    obtain ⟨_, _, _, _, e⟩ := slotFrame_applySent (s := s) b
    exact (params_endTurn _).trans ((slotFrame_endContext _ _).params_eq.trans (by rw [e]))
  all_goals rfl

theorem params_testSent (s : State) (l : LineTest) : (s.testSent l).params = s.params := by
  unfold State.testSent
  simp only
  split
  · rfl
  · split <;> rfl

theorem params_lastPadOctetEnded (s : State) : s.lastPadOctetEnded.params = s.params := by
  unfold State.lastPadOctetEnded
  split
  · rfl
  · split
    · split
      · split
        · rfl
        · exact params_turnRound s _
      · exact params_testSent s _
      · rfl
    · rfl

theorem params_gapTimerExpiry (s : State) : s.gapTimerExpiry.params = s.params := by
  unfold State.gapTimerExpiry
  split <;> rfl

theorem params_replyTimerExpiry (s : State) : s.replyTimerExpiry.params = s.params := by
  unfold State.replyTimerExpiry
  split
  · split
    case h_1 => exact (params_endTurn _).trans (missExchange_keeps s).2
    all_goals rfl
  · rfl

theorem params_probeTimerExpiry (s : State) : s.probeTimerExpiry.params = s.params := by
  unfold State.probeTimerExpiry
  split
  · simp only
    split <;> rfl
  · rfl

theorem Passes.params_eq (h : Passes s t) : t.params = s.params := by
  obtain ⟨_, _, _, _, _, rfl, _⟩ := h
  rfl

theorem params_select (s : State) : s.select.params = s.params := by
  obtain e | ⟨_, _, _, e⟩ | ⟨x, _, _, _, e⟩ := select_cases s
  · rw [e]
  · rw [e]; exact choose_fits.1.params_eq
  · rw [e]; exact (choose_fits (s := s)).1.params_eq

theorem params_leadDetected (s : State) : s.leadDetected.params = s.params := by
  unfold State.leadDetected
  split <;> rfl

theorem params_alignmentGivenUp (s : State) (o : Octet) :
    (s.alignmentGivenUp o).params = s.params := by
  unfold State.alignmentGivenUp
  split <;> rfl

theorem params_octetAlignmentTaken (s : State) (bits : List Bool) :
    (s.octetAlignmentTaken bits).params = s.params := by
  unfold State.octetAlignmentTaken
  split <;> rfl

theorem params_bodyOctetDecoded (s : State) (o : Octet) :
    (s.bodyOctetDecoded o).params = s.params := by
  unfold State.bodyOctetDecoded
  split
  · split <;> rfl
  · rfl

theorem params_testJudged (s : State) (l : LineTest) (rx : Receiver) (j : Judgement) :
    (s.testJudged l rx j).params = s.params := by
  unfold State.testJudged
  simp only
  split <;> rfl

theorem params_blockJudged (s : State) (o : Octet) : (s.blockJudged o).params = s.params := by
  unfold State.blockJudged
  split
  · split
    · rfl
    · next rx j _ =>
      split
      · next c _ hc =>
        exact (params_enterSettling _).trans
          ((slotFrame_applyJudgement c j hc).ended c.exchange).params_eq
      · exact params_testJudged s _ rx j
      · rfl
  · rfl

end

/-- The parameters stay legal: a write is judged, and no other event but reset and an entry into FAULT moves them. -/
theorem legalLaw : LineLaw (fun s => s.params.Legal) fun _ => True where
  short _ _ := trivial
  hunt hs _ _ := hs
  bits hs _ _ := hs
  lead hs := by rwa [params_leadDetected]
  given o hs := by rwa [params_alignmentGivenUp]
  body o hs := by rwa [params_bodyOctetDecoded]
  judged o hs := by rwa [params_blockJudged]
  select hs := by rwa [params_select]
  count hs := hs
  crc hs := by rwa [params_lastCrcOctetSent]
  advance hs _ := hs
  pad hs := by rwa [params_lastPadOctetEnded]
  cut {s} hs := by
    unfold State.ctsLostEvent
    split
    · exact legal_enterFault (by rwa [params_abandonExchange]) _
    · exact hs
  cts {s} hs := by
    unfold State.ctsTimerExpiry
    split
    · exact legal_enterFault (by rwa [params_abandonExchange]) _
    · exact hs
  reply hs := by rwa [params_replyTimerExpiry]
  settle {s} hs := by
    unfold State.settleTimerExpiry
    split
    · exact legal_enterFault hs _
    · exact hs
  gap hs := by rwa [params_gapTimerExpiry]
  probe hs := by rwa [params_probeTimerExpiry]
  congr hs _ hp _ := by rwa [hp]
  emptied hs := hs
  startLine {s} hs _ := show s.enterGap.params.Legal by rwa [params_enterGap]
  stopLine hs := by rwa [params_stopLine]
  abortLine {s} hs := show s.abandonExchange.params.Legal by rwa [params_abandonExchange]
  lineTest hs := by rwa [params_lineTestEvent]
  ctsChanged a hs := by rwa [params_ctsChanged]
  dcdChanged a hs := by rwa [params_dcdChanged]
  aligned bits hs := by rwa [params_octetAlignmentTaken]
  written hs hp := Params.legal_write hs hp
  reset _ := lineWf_heldInReset.2.params

/-- Settles O7: a write leaves what its judgement admits, and every other event the parameters it found. -/
theorem parametersStayLegal : Obligations.ParametersStayLegal :=
  fun _ _ h he => legalLaw.step he h

end Sys2Proof.Machine
end

section
namespace Sys2Proof.Machine

/-! ### The line form is transparent (R116, R117) -/

section
variable {lead pre : Octet}

/-- What a legal pair gives: the two differ, and neither is the other's second octet of an escape pair (R117). -/
theorem legalPair_iff : legalPair lead pre = true ↔
    lead ≠ pre ∧ lead ≠ escaped pre ∧ lead ≠ 0x00 ∧ lead ≠ 0xFF ∧ pre ≠ 0xFF := by
  simp [legalPair, escaped, and_assoc]

theorem escaped_escaped (o : Octet) : escaped (escaped o) = o := by
  simp [escaped]

theorem escaped_ne_self (o : Octet) : escaped o ≠ o := by
  revert o; decide

theorem escaped_injective : Function.Injective escaped := fun a b h => by
  rw [← escaped_escaped a, h, escaped_escaped]

/-- The second octet of an escape pair is neither LEAD nor PREFIX (R116, R117). -/
theorem escaped_ne_of_legalPair (h : legalPair lead pre = true) {o : Octet}
    (ho : o = lead ∨ o = pre) : escaped o ≠ lead ∧ escaped o ≠ pre := by
  obtain ⟨_, hesc, _⟩ := legalPair_iff.mp h
  obtain rfl | rfl := ho
  · exact ⟨escaped_ne_self o, fun e => hesc (by rw [← e, escaped_escaped])⟩
  · exact ⟨hesc.symm, escaped_ne_self o⟩

theorem escapeOctet_of_mem {o : Octet} (h : o = lead ∨ o = pre) :
    escapeOctet lead pre o = [pre, escaped o] := if_pos h

theorem escapeOctet_of_not_mem {o : Octet} (h : ¬(o = lead ∨ o = pre)) :
    escapeOctet lead pre o = [o] := if_neg h

theorem escapeAll_cons (o : Octet) (os : List Octet) :
    escapeAll lead pre (o :: os) = escapeOctet lead pre o ++ escapeAll lead pre os :=
  List.flatMap_cons

theorem lead_notMem_escapeOctet (h : legalPair lead pre = true) (o : Octet) :
    lead ∉ escapeOctet lead pre o := by
  by_cases ho : o = lead ∨ o = pre
  · rw [escapeOctet_of_mem ho]
    simpa using ⟨(legalPair_iff.mp h).1, (escaped_ne_of_legalPair h ho).1.symm⟩
  · rw [escapeOctet_of_not_mem ho]
    simpa [eq_comm] using (not_or.mp ho).1

theorem lead_notMem_escapeAll (h : legalPair lead pre = true) (os : List Octet) :
    lead ∉ escapeAll lead pre os := by
  simpa [escapeAll] using fun o _ => lead_notMem_escapeOctet h o

/-- A PREFIX in the line form stands first in an escape pair (R116). -/
theorem opens_pair_of_prefix (h : legalPair lead pre = true) (os : List Octet) (k : Nat)
    (hk : (escapeAll lead pre os)[k]? = some pre) :
    (escapeAll lead pre os)[k + 1]? = some (escaped lead) ∨
      (escapeAll lead pre os)[k + 1]? = some (escaped pre) := by
  induction os generalizing k with
  | nil => simp [escapeAll] at hk
  | cons o os ih =>
    rw [escapeAll_cons] at hk ⊢
    by_cases ho : o = lead ∨ o = pre
    · rw [escapeOctet_of_mem ho] at hk ⊢
      match k with
      | 0 => obtain rfl | rfl := ho <;> simp
      | 1 =>
        have he : escaped o = pre := by simpa using hk
        exact absurd he (escaped_ne_of_legalPair h ho).2
      | k + 2 => exact ih k hk
    · rw [escapeOctet_of_not_mem ho] at hk ⊢
      match k with
      | 0 =>
        have he : o = pre := by simpa using hk
        exact absurd (.inr he) ho
      | k + 1 => exact ih k hk

theorem length_escapeOctet (o : Octet) :
    (escapeOctet lead pre o).length = 1 + if o == lead || o == pre then 1 else 0 := by
  by_cases ho : o = lead ∨ o = pre
  · simp [escapeOctet_of_mem ho, ho]
  · simp [escapeOctet_of_not_mem ho, ho]

theorem length_escapeAll (os : List Octet) : (escapeAll lead pre os).length =
    os.length + os.countP fun o => o == lead || o == pre := by
  induction os with
  | nil => rfl
  | cons o os ih =>
    rw [escapeAll_cons, List.length_append, ih, length_escapeOctet, List.length_cons,
      List.countP_cons]
    omega

end

/-- Settles O19: octet by octet, each one sent plainly or as an escape pair. -/
theorem lineFormIsTransparent : Obligations.LineFormIsTransparent := by
  unfold Obligations.LineFormIsTransparent
  intro lead pre os h
  exact ⟨lead_notMem_escapeAll h os, opens_pair_of_prefix h os, length_escapeAll os⟩

end Sys2Proof.Machine
end

section
namespace Sys2Proof.Machine

/-! ### The CRC register (R118) -/

/-- A bit equal to bit 15 shifts the register alone. -/
theorem crcBit_same (r : Word16) : crcBit r (r.getMsbD 0) = r <<< 1 := by
  simp [crcBit, BitVec.getMsbD]

/-- A bit that differs from bit 15 leaves bit 0 set, which the polynomial holds. -/
theorem getMsbD_crcBit_of_ne {r : Word16} {b : Bool} (h : r.getMsbD 0 ≠ b) :
    (crcBit r b).getMsbD 15 = true := by
  have h' : (r.getLsbD 15 != b) = true := by simpa [BitVec.getMsbD] using h
  rw [crcBit, if_pos h']
  simp [BitVec.getMsbD]

theorem eq_iff_getMsbD {w : Nat} (x y : BitVec w) : x = y ↔ ∀ k, x.getMsbD k = y.getMsbD k :=
  ⟨fun h _ => by rw [h], fun h => BitVec.eq_of_getMsbD_eq fun k _ => h k⟩

/-- The register is 0 after at most sixteen bits exactly where it held those bits, first bit highest, and zeros below. -/
theorem foldl_crcBit_eq_zero_iff (bits : List Bool) (hl : bits.length ≤ 16) (r : Word16) :
    bits.foldl crcBit r = 0 ↔ ∀ k, r.getMsbD k = bits.getD k false := by
  induction bits generalizing r with
  | nil => simp [eq_iff_getMsbD]
  | cons b bs ih =>
    rw [List.length_cons] at hl
    rw [List.foldl_cons, ih (by omega)]
    by_cases hb : r.getMsbD 0 = b
    · subst hb
      have hshift : ∀ k, (r <<< 1).getMsbD k = r.getMsbD (k + 1) :=
        fun _ => r.getMsbD_shiftLeft 1
      rw [crcBit_same]
      simp only [hshift]
      constructor
      · rintro h (_ | k)
        · rfl
        · exact h k
      · exact fun h k => h (k + 1)
    · refine iff_of_false (fun h => ?_) fun h => hb (h 0)
      have := h 15
      rw [getMsbD_crcBit_of_ne hb, List.getD_eq_default _ _ (by omega)] at this
      cases this

/-- The bits of an octet as they enter the register, most significant first. -/
theorem getD_reverse_lineBits (o : Octet) (k : Nat) :
    (lineBits o).reverse.getD k false = o.getMsbD k := by
  by_cases hk : k < 8
  · interval_cases k <;> simp [lineBits, BitVec.getMsbD]
  · have hk : 8 ≤ k := Nat.le_of_not_lt hk
    rw [List.getD_eq_default _ _ hk, BitVec.getMsbD_of_ge _ _ hk]

/-- The bits of two octets as they enter the register are those of the word that the two make. -/
theorem getD_bits_of_pair (high low : Octet) (k : Nat) :
    ((lineBits high).reverse ++ (lineBits low).reverse).getD k false = (high ++ low).getMsbD k := by
  rw [BitVec.getMsbD_append]
  split
  · next hk => rw [List.getD_append_right _ _ _ _ hk]; exact getD_reverse_lineBits low (k - 8)
  · next hk =>
    rw [List.getD_append _ _ _ _ (Nat.lt_of_not_le hk)]
    exact getD_reverse_lineBits high k

theorem eq_append_iff (r : Word16) (high low : Octet) :
    r = high ++ low ↔ high = highOctet r ∧ low = lowOctet r := by
  constructor
  · rintro rfl
    exact ⟨BitVec.extractLsb'_append_eq_left.symm, BitVec.extractLsb'_append_eq_right.symm⟩
  · rintro ⟨rfl, rfl⟩
    have h : highOctet r ++ lowOctet r = r.extractLsb' 0 16 :=
      BitVec.extractLsb'_append_extractLsb'_eq_extractLsb' (start₁ := 0) (len₁ := 8) rfl
    rw [h, BitVec.extractLsb'_eq_self]

theorem crcOf_append_pair (body : List Octet) (high low : Octet) :
    crcOf (body ++ [high, low]) =
      ((lineBits high).reverse ++ (lineBits low).reverse).foldl crcBit (crcOf body) := by
  simp only [crcOf, List.foldl_append, List.foldl_cons, List.foldl_nil, crcOctet]

/-- Settles O20: sixteen bits bring the register to 0 exactly where they are the bits it holds. -/
theorem crcOfABlockLeavesZero : Obligations.CrcOfABlockLeavesZero := by
  unfold Obligations.CrcOfABlockLeavesZero
  intro body high low
  rw [crcOf_append_pair, foldl_crcBit_eq_zero_iff _ (by simp [lineBits]), ← eq_append_iff,
    eq_iff_getMsbD]
  simp only [getD_bits_of_pair]

end Sys2Proof.Machine
end

section
namespace Sys2Proof.Machine

/-! ### One octet of a body, by its place (R124 to R127) -/

section
variable {rx : Receiver} {testing : Bool} {v : Octet} {e : Nat}

theorem decode_validKind (hd : rx.decoded = 0) (hv : validKind testing v = true) :
    rx.decode testing v = .more { rx.countBody v with kind := v } := by
  simp only [Receiver.decode, hd, if_pos hv]

theorem decode_invalidKind (hd : rx.decoded = 0) (hv : validKind testing v = false) :
    rx.decode testing v = (rx.countBody v).judge (.bad .invalidKind) := by
  simp only [Receiver.decode, hd, hv, if_neg Bool.false_ne_true]

theorem decode_address (hd : rx.decoded = 1) :
    rx.decode testing v = .more { rx.countBody v with address := v } := by
  simp only [Receiver.decode, hd]

theorem decode_control (hd : rx.decoded = 2) :
    rx.decode testing v = .more { rx.countBody v with control := v } := by
  simp only [Receiver.decode, hd]

theorem bodyEnd_of_plain (hk : kindHasLength rx.kind = false) : rx.bodyEnd = some 3 := by
  simp only [Receiver.bodyEnd, hk, if_neg Bool.false_ne_true]

theorem bodyEnd_of_noLength (hk : kindHasLength rx.kind = true) (hl : rx.length = none) :
    rx.bodyEnd = none := by
  simp only [Receiver.bodyEnd, hk, hl, if_true, Option.map_none]

theorem bodyEnd_of_length {n : Nat} (hk : kindHasLength rx.kind = true) (hl : rx.length = some n) :
    rx.bodyEnd = some (n + 4) := by
  simp only [Receiver.bodyEnd, hk, hl, if_true, Option.map_some]

theorem decode_acceptedLength (hd : rx.decoded = 3) (he : rx.bodyEnd = none)
    (hv : lengthAccepted rx.kind v = true) :
    rx.decode testing v = .more { rx.countBody v with length := some v.toNat } := by
  simp only [Receiver.decode, hd, he, if_pos hv]

theorem decode_rejectedLength (hd : rx.decoded = 3) (he : rx.bodyEnd = none)
    (hv : lengthAccepted rx.kind v = false) :
    rx.decode testing v = (rx.countBody v).judge (.bad .lengthError) := by
  simp only [Receiver.decode, hd, he, hv, if_neg Bool.false_ne_true]

/-- Behind LENGTH, or behind CONTROL where the kind has none: text up to the body's end, then the CRC (R126). -/
theorem decode_of_bodyEnd (hd : 3 ≤ rx.decoded) (he : rx.bodyEnd = some e) :
    rx.decode testing v =
      if rx.decoded < e then .more { rx.countBody v with assembly := rx.assembly ++ [v] }
      else if rx.decoded = e then .more { rx.countCrc with crcHigh := v }
      else if rx.crcHigh = highOctet rx.crc ∧ v = lowOctet rx.crc then
        rx.countCrc.judge (.good rx.kind rx.address rx.control rx.assembly)
      else rx.countCrc.judge (.bad .crcError) := by
  obtain ⟨n, hn⟩ := Nat.exists_eq_add_of_le' hd
  simp only [Receiver.decode, hn, he]

theorem decode_text (hd : 3 ≤ rx.decoded) (he : rx.bodyEnd = some e) (hlt : rx.decoded < e) :
    rx.decode testing v = .more { rx.countBody v with assembly := rx.assembly ++ [v] } := by
  rw [decode_of_bodyEnd hd he, if_pos hlt]

theorem decode_crcHigh (hd : 3 ≤ rx.decoded) (he : rx.bodyEnd = some rx.decoded) :
    rx.decode testing v = .more { rx.countCrc with crcHigh := v } := by
  rw [decode_of_bodyEnd hd he, if_neg (Nat.lt_irrefl _), if_pos rfl]

theorem decode_crcLow (hd : 3 ≤ rx.decoded) (he : rx.bodyEnd = some e) (hlt : e < rx.decoded) :
    rx.decode testing v = rx.countCrc.judge
      (if rx.crcHigh = highOctet rx.crc ∧ v = lowOctet rx.crc then
        .good rx.kind rx.address rx.control rx.assembly
      else .bad .crcError) := by
  rw [decode_of_bodyEnd hd he, if_neg (Nat.lt_asymm hlt), if_neg (Nat.ne_of_gt hlt)]
  split <;> rfl

/-! ### One line octet, by the escape open (R116, R124, R125) -/

variable {lead pre o : Octet}

theorem take_plain (he : rx.escapeOpen = false) (hl : o ≠ lead) (hp : o ≠ pre) :
    rx.take lead pre testing o = rx.decode testing o := by
  simp only [Receiver.take, he, if_neg Bool.false_ne_true, if_neg hl, if_neg hp]

theorem take_prefix (he : rx.escapeOpen = false) (h : lead ≠ pre) :
    rx.take lead pre testing pre = .more { rx with escapeOpen := true } := by
  simp only [Receiver.take, he, if_neg Bool.false_ne_true, if_neg h.symm, if_true]

theorem take_lead (he : rx.escapeOpen = false) :
    rx.take lead pre testing lead =
      if rx.decoded = 0 then .more rx else rx.judge (.bad .escapeError) := by
  simp only [Receiver.take, he, if_neg Bool.false_ne_true, if_true]

theorem take_escaped (he : rx.escapeOpen = true) (hv : v = lead ∨ v = pre) :
    rx.take lead pre testing (escaped v) =
      { rx with escapeOpen := false }.decode testing v := by
  simp only [Receiver.take, he, if_true]
  obtain rfl | rfl := hv
  · rw [if_pos rfl]
  · split
    · next e => rw [escaped_injective e]
    · rw [if_pos rfl]

theorem take_brokenEscape (he : rx.escapeOpen = true) (hl : o ≠ escaped lead)
    (hp : o ≠ escaped pre) : rx.take lead pre testing o =
      { rx with escapeOpen := false }.judge (.bad .escapeError) := by
  simp only [Receiver.take, he, if_true, if_neg hl, if_neg hp]

end

end Sys2Proof.Machine
end

section
namespace Sys2Proof.Machine

/-! ### The receiver over the line form of a block (R111, R116, R124 to R127) -/

section
variable {rx rx' : Receiver} {lead pre o v : Octet} {testing : Bool} {xs ys : List Octet}

theorem takeAll_cons_of_more (h : rx.take lead pre testing o = .more rx') :
    rx.takeAll lead pre testing (o :: xs) = rx'.takeAll lead pre testing xs := by
  simp only [Receiver.takeAll, h]

theorem takeAll_singleton (o : Octet) :
    rx.takeAll lead pre testing [o] = rx.take lead pre testing o := by
  simp only [Receiver.takeAll]
  split <;> next h => exact h.symm

theorem takeAll_append (h : rx.takeAll lead pre testing xs = .more rx') :
    rx.takeAll lead pre testing (xs ++ ys) = rx'.takeAll lead pre testing ys := by
  induction xs generalizing rx with
  | nil => cases h; rfl
  | cons x xs ih =>
    cases hx : rx.take lead pre testing x with
    | more rx₁ =>
      rw [takeAll_cons_of_more hx] at h
      rw [List.cons_append, takeAll_cons_of_more hx, ih h]
    | judged rx₁ j => simp only [Receiver.takeAll, hx, reduceCtorEq] at h

/-- Further LEAD octets before the body are skipped (R124). -/
theorem takeAll_leads (he : rx.escapeOpen = false) (hd : rx.decoded = 0) (n : Nat) :
    rx.takeAll lead pre testing (List.replicate n lead) = .more rx := by
  have hskip : rx.take lead pre testing lead = .more rx := by rw [take_lead he, if_pos hd]
  induction n with
  | zero => rfl
  | succ n ih => rw [List.replicate_succ, takeAll_cons_of_more hskip, ih]

/-- What the framer sends for an octet decodes to that octet (R116, R125). -/
theorem takeAll_escapeOctet (h : lead ≠ pre) (he : rx.escapeOpen = false) :
    rx.takeAll lead pre testing (escapeOctet lead pre v) = rx.decode testing v := by
  by_cases hv : v = lead ∨ v = pre
  · have hclosed : { rx with escapeOpen := false } = rx := by rw [← he]
    rw [escapeOctet_of_mem hv, takeAll_cons_of_more (take_prefix he h), takeAll_singleton,
      take_escaped rfl hv]
    exact congrArg (·.decode testing v) hclosed
  · obtain ⟨hl, hp⟩ := not_or.mp hv
    rw [escapeOctet_of_not_mem hv, takeAll_singleton, take_plain he hl hp]

/-- All but the last line octet of what is sent for one octet: nothing, or the PREFIX of a pair. -/
theorem takeAll_dropLast_escapeOctet (h : lead ≠ pre) (he : rx.escapeOpen = false) :
    ∃ rx', rx.takeAll lead pre testing (escapeOctet lead pre v).dropLast = .more rx' := by
  by_cases hv : v = lead ∨ v = pre
  · rw [escapeOctet_of_mem hv]
    exact ⟨_, (takeAll_singleton pre).trans (take_prefix he h)⟩
  · rw [escapeOctet_of_not_mem hv]
    exact ⟨rx, rfl⟩

theorem takeAll_escapeAll_cons (h : lead ≠ pre) (he : rx.escapeOpen = false)
    (hd : rx.decode testing v = .more rx') :
    rx.takeAll lead pre testing (escapeAll lead pre (v :: xs)) =
      rx'.takeAll lead pre testing (escapeAll lead pre xs) := by
  rw [escapeAll_cons, takeAll_append ((takeAll_escapeOctet h he).trans hd)]

theorem escapeAll_concat (os : List Octet) (o : Octet) :
    escapeAll lead pre (os ++ [o]) = escapeAll lead pre os ++ escapeOctet lead pre o := by
  simp only [escapeAll, List.flatMap_append, List.flatMap_singleton]

/-! #### The body of a block -/

/-- The text of a block goes into the assembly area and the running CRC (R125, R126). -/
theorem takeAll_text (h : lead ≠ pre) (he : rx.escapeOpen = false) (hd : 3 ≤ rx.decoded)
    {e : Nat} (hb : rx.bodyEnd = some e) (text : List Octet) (hl : rx.decoded + text.length ≤ e) :
    rx.takeAll lead pre testing (escapeAll lead pre text) =
      .more { rx with
        decoded := rx.decoded + text.length, crc := text.foldl crcOctet rx.crc
        assembly := rx.assembly ++ text } := by
  induction text generalizing rx with
  | nil => simp [escapeAll, Receiver.takeAll]
  | cons t ts ih =>
    rw [List.length_cons] at hl
    rw [takeAll_escapeAll_cons h he (decode_text hd hb (by omega)),
      ih (rx := { rx.countBody t with assembly := rx.assembly ++ [t] }) he (Nat.le_succ_of_le hd) hb
        (by show rx.decoded + 1 + ts.length ≤ e; omega)]
    simp only [Receiver.countBody, List.length_cons, List.foldl_cons, List.append_assoc,
      List.singleton_append, Nat.add_assoc, Nat.add_comm 1]

/-- The receiver that has taken the whole body of a block, and none of its CRC (R126). -/
structure Receiver.HoldsBody (rx : Receiver) (kind address control : Octet)
    (text body : List Octet) : Prop where
  escape : rx.escapeOpen = false
  kind : rx.kind = kind
  address : rx.address = address
  control : rx.control = control
  text : rx.assembly = text
  decoded : rx.decoded = body.length
  bodyEnd : rx.bodyEnd = some body.length
  crc : rx.crc = crcOf body

/-- The receiver put into BODY by the lead of a block, KIND, ADDRESS and CONTROL taken. -/
def Receiver.headed (kind address control : Octet) : Receiver :=
  { Receiver.startHunt.enterBody with
    kind := kind, address := address, control := control, decoded := 3
    crc := crcOf [kind, address, control] }

variable {kind address control : Octet} {text : List Octet}

theorem takeAll_header (h : lead ≠ pre) (hk : validKind testing kind = true) :
    Receiver.startHunt.enterBody.takeAll lead pre testing
        (escapeAll lead pre (kind :: address :: control :: xs)) =
      (Receiver.headed kind address control).takeAll lead pre testing (escapeAll lead pre xs) := by
  rw [takeAll_escapeAll_cons h rfl (decode_validKind rfl hk),
    takeAll_escapeAll_cons h rfl (decode_address rfl),
    takeAll_escapeAll_cons h rfl (decode_control rfl)]
  rfl

/-- A LENGTH that the kind accepts is the length of the text sent (R115). -/
theorem length_accepted (hl : 1 ≤ text.length ∧ text.length ≤ 128)
    (hs : kind = kindStatus → text.length = 1) :
    lengthAccepted kind (octetOfNat text.length) = true ∧
      (octetOfNat text.length).toNat = text.length := by
  have hn : (octetOfNat text.length).toNat = text.length := by
    simp only [octetOfNat, BitVec.toNat_ofNat]
    omega
  refine ⟨?_, hn⟩
  unfold lengthAccepted
  split
  · next hk => rw [hs hk]; rfl
  · simpa [hn, Config.textCapacity] using hl

/-- The same for a kind with LENGTH, the length of the text taken as well. -/
def Receiver.sized (kind address control : Octet) (text : List Octet) : Receiver :=
  { (Receiver.headed kind address control).countBody (octetOfNat text.length) with
    length := some text.length }

theorem decode_length_of_headed (hk : kindHasLength kind = true)
    (hl : 1 ≤ text.length ∧ text.length ≤ 128) (hs : kind = kindStatus → text.length = 1) :
    (Receiver.headed kind address control).decode testing (octetOfNat text.length) =
      .more (Receiver.sized kind address control text) := by
  obtain ⟨hacc, hnat⟩ := length_accepted hl hs
  rw [decode_acceptedLength rfl (bodyEnd_of_noLength hk rfl) hacc, hnat]
  rfl

/-- The receiver takes the whole line form of a body (R126). -/
theorem takeAll_body (h : lead ≠ pre) (hk : validKind testing kind = true)
    (hl : kindHasLength kind = true → 1 ≤ text.length ∧ text.length ≤ 128)
    (hs : kind = kindStatus → text.length = 1) (hn : kindHasLength kind = false → text = [])
    {body : List Octet}
    (hb : body = blockBody kind address control (if kindHasLength kind then some text else none)) :
    ∃ rx : Receiver,
      Receiver.startHunt.enterBody.takeAll lead pre testing (escapeAll lead pre body) = .more rx ∧
      rx.HoldsBody kind address control text body := by
  subst hb
  cases hlen : kindHasLength kind with
  | false =>
    obtain rfl := hn hlen
    exact ⟨Receiver.headed kind address control, takeAll_header (xs := []) h hk,
      ⟨rfl, rfl, rfl, rfl, rfl, rfl, bodyEnd_of_plain hlen, rfl⟩⟩
  | true =>
    have hend : (Receiver.sized kind address control text).bodyEnd = some (text.length + 4) :=
      bodyEnd_of_length hlen rfl
    have hrun := (takeAll_escapeAll_cons h rfl
      (decode_length_of_headed (testing := testing) hlen (hl hlen) hs)).trans
      (takeAll_text h rfl (Nat.le_succ 3) hend text (Nat.add_comm _ _).le)
    refine ⟨_, (takeAll_header h hk).trans hrun, rfl, rfl, rfl, rfl, rfl, ?_, hend.trans ?_, ?_⟩
    · show 4 + text.length = _
      simp only [blockBody, if_true, List.length_append, List.length_cons, List.length_nil]
      omega
    · simp [blockBody]
    · simp [blockBody, crcOf, Receiver.sized, Receiver.countBody, Receiver.headed]

/-- The CRC octets behind the body: the first is kept, and the second judges the block GOOD (R126, R127). -/
theorem Receiver.HoldsBody.decode_crc {body : List Octet} (hr : rx.HoldsBody kind address control text body)
    (h3 : 3 ≤ body.length) :
    ∃ rx', rx.decode testing (highOctet (crcOf body)) = .more rx' ∧ rx'.escapeOpen = false ∧
      rx'.decode testing (lowOctet (crcOf body)) =
        .judged { rx'.countCrc with phase := .ended } (.good kind address control text) ∧
      rx'.decoded = body.length + 1 := by
  refine ⟨_, decode_crcHigh (hr.decoded ▸ h3) (hr.decoded ▸ hr.bodyEnd), hr.escape, ?_,
    congrArg (· + 1) hr.decoded⟩
  obtain ⟨_, rfl, rfl, rfl, rfl, hd, hend, hc⟩ := hr
  have h3' : 3 ≤ rx.decoded + 1 := by omega
  have hlt : body.length < rx.decoded + 1 := by omega
  rw [decode_crcLow (rx := { rx.countCrc with crcHigh := highOctet (crcOf body) }) h3' hend hlt]
  simp [Receiver.judge, Receiver.countCrc, hc]

end

/-- Settles O18: the leads are skipped, the body is taken octet by octet, and its CRC judges the block. -/
theorem everyLineFormIsReceivedGood : Obligations.EveryLineFormIsReceivedGood := by
  unfold Obligations.EveryLineFormIsReceivedGood
  intro lead pre testing n kind address control text hp hk hl hs hn body form takes
  have hne : lead ≠ pre := (legalPair_iff.mp hp).1
  obtain ⟨rx, hrx, hbody⟩ := takeAll_body (body := body) hne hk hl hs hn rfl
  obtain ⟨rx₁, hhigh, he, hlow, hd⟩ := hbody.decode_crc (by simp [body, blockBody])
  have hfront : takes (List.replicate n lead ++ escapeAll lead pre (body ++ [highOctet (crcOf body)])) =
      .more rx₁ := by
    rw [escapeAll_concat]
    exact (takeAll_append (takeAll_leads rfl rfl n)).trans ((takeAll_append hrx).trans
      ((takeAll_escapeOctet hne hbody.escape).trans hhigh))
  have hform : form = List.replicate n lead ++ escapeAll lead pre (body ++ [highOctet (crcOf body)]) ++
      escapeOctet lead pre (lowOctet (crcOf body)) := by
    rw [List.append_assoc, ← escapeAll_concat, List.append_assoc]
    rfl
  rw [hform]
  refine ⟨⟨_, (takeAll_append hfront).trans ((takeAll_escapeOctet hne he).trans hlow), rfl, he, ?_⟩, ?_⟩
  · exact congrArg (· + 1) hd
  · rw [List.dropLast_append_of_ne_nil (escapeOctet_ne_nil _ _ _)]
    exact (takeAll_dropLast_escapeOctet hne he).imp fun _ => (takeAll_append hfront).trans

end Sys2Proof.Machine
end

section
namespace Sys2Proof.Machine

/-! ### The receiver's octet events (R124, R125, R127) -/

section
variable {s : State} {o v : Octet} {rx : Receiver}

/-- An octet that does not judge the block changes the receiver alone (R125). -/
theorem exec_bodyOctetDecoded (he : s.engine = .receiving ∨ s.engine = .testing)
    (hp : s.receiver.phase = .body) (ht : s.takeOctet o = .more rx) :
    exec (.bodyOctetDecoded o) s = .next { s with receiver := rx } := by
  have hb : s.takesBody = true := by simpa [State.takesBody] using he
  show Host.Outcome.next (s.bodyOctetDecoded o) = _
  rw [State.bodyOctetDecoded, if_pos ⟨hb, hp⟩, ht]

/-! ### Kinds and lengths by their octets (R113, R115) -/

theorem validKind_iff (hk : s.engine = .receiving ∨ s.engine = .testing) :
    validKind (s.engine == .testing) v = true ↔
      v ∈ (if s.engine = .testing then [0xCF] else [0xA1, 0xA2, 0xA3, 0xA4, 0xA5] : List Octet) := by
  obtain h | h := hk
  · simp [h, validKind, kindNil, kindText, kindAck, kindNak, kindStatus, or_assoc]
  · simp [h, validKind, kindTest]

theorem kindHasLength_iff {k : Octet} :
    kindHasLength k = true ↔ k = 0xA2 ∨ k = 0xA5 ∨ k = 0xCF := by
  simp [kindHasLength, kindText, kindStatus, kindTest, or_assoc]

theorem lengthAccepted_iff {k : Octet} : lengthAccepted k v = true ↔
    if k = 0xA5 then v = 1 else 1 ≤ v.toNat ∧ v.toNat ≤ 128 := by
  by_cases hk : k = kindStatus
  · rw [lengthAccepted, if_pos hk, if_pos (show k = 0xA5 from hk), beq_iff_eq]
  · rw [lengthAccepted, if_neg hk, if_neg (show k ≠ 0xA5 from hk), Bool.and_eq_true,
      decide_eq_true_eq, decide_eq_true_eq]

/-! ### The octet that decodes as a value, plainly or as the second of a pair (R116, R125) -/

/-- The line octet `o` decodes as `v` where an escape is open or not, as the receiver has it. -/
theorem take_of_decodes {lead pre : Octet} {testing : Bool}
    (h : (rx.escapeOpen = false ∧ o ≠ lead ∧ o ≠ pre ∧ v = o) ∨
      (rx.escapeOpen = true ∧ (v = lead ∨ v = pre) ∧ o = v ^^^ 0x80)) :
    rx.take lead pre testing o = { rx with escapeOpen := false }.decode testing v := by
  obtain ⟨he, hl, hp, rfl⟩ | ⟨he, hv, rfl⟩ := h
  · rw [take_plain he hl hp]
    exact congrArg (fun r : Receiver => r.decode testing v)
      (show rx = { rx with escapeOpen := false } by rw [← he])
  · exact take_escaped he hv

end

/-- Settles O53: the octet by the escape open, and what it decodes as by its place. -/
theorem bodyOctetsAreDecodedByPlace : Obligations.BodyOctetsAreDecodedByPlace := by
  unfold Obligations.BodyOctetsAreDecodedByPlace
  intro s o v he hp hlegal rx lead pre kinds hasLength accepted counted countedCrc goesOn isJudged ends
  have hne : lead ≠ pre := (legalPair_iff.mp hlegal.1).1
  have hmore : ∀ next, s.takeOctet o = .more next → goesOn next := fun _ ht =>
    exec_bodyOctetDecoded he hp ht
  refine ⟨?_, ?_, fun hesc hl hpre => take_brokenEscape (rx := rx) hesc hl hpre, fun hdec => ?_⟩
  · rintro hesc rfl
    exact hmore _ (take_prefix (rx := rx) hesc hne)
  · rintro hesc rfl
    have ht := take_lead (rx := rx) (lead := lead) (pre := pre) (testing := s.engine == .testing) hesc
    exact ⟨fun hd => hmore _ (ht.trans (if_pos hd)), fun hd => ht.trans (if_neg hd)⟩
  · have ht : s.takeOctet o =
        Receiver.decode { rx with escapeOpen := false } (s.engine == .testing) v := take_of_decodes hdec
    have hplain : ¬ hasLength → kindHasLength rx.kind = false := fun h =>
      Bool.eq_false_iff.mpr fun e => h (kindHasLength_iff.mp e)
    refine ⟨fun hd => ⟨fun hv => ?kind, fun hv => ?badKind⟩, fun hd => ?address, fun hd => ?control,
      fun hd hk hlen => ⟨fun ha => ?length, fun ha => ?badLength⟩,
      fun n hk hlen hd => ?withLength, fun hk => ?withoutLength⟩
    case kind => exact hmore _ (ht.trans (decode_validKind hd ((validKind_iff he).mpr hv)))
    case badKind =>
      exact ht.trans (decode_invalidKind hd (Bool.eq_false_iff.mpr fun e => hv ((validKind_iff he).mp e)))
    case address => exact hmore _ (ht.trans (decode_address hd))
    case control => exact hmore _ (ht.trans (decode_control hd))
    case length =>
      exact hmore _ (ht.trans (decode_acceptedLength hd
        (bodyEnd_of_noLength (kindHasLength_iff.mpr hk) hlen) (lengthAccepted_iff.mpr ha)))
    case badLength =>
      exact ht.trans (decode_rejectedLength hd
        (bodyEnd_of_noLength (kindHasLength_iff.mpr hk) hlen)
        (Bool.eq_false_iff.mpr fun e => ha (lengthAccepted_iff.mp e)))
    case withLength =>
      have h3 : 3 ≤ rx.decoded := Nat.le_of_succ_le hd
      have hend : rx.bodyEnd = some (n + 4) := bodyEnd_of_length (kindHasLength_iff.mpr hk) hlen
      exact ⟨fun hlt => hmore _ (ht.trans (decode_text h3 hend hlt)),
        fun heq => hmore _ (ht.trans (decode_crcHigh h3 (heq ▸ hend))),
        fun heq => ht.trans (decode_crcLow h3 hend (heq ▸ Nat.lt_succ_self _))⟩
    case withoutLength =>
      have hend : rx.bodyEnd = some 3 := bodyEnd_of_plain (hplain hk)
      exact ⟨fun hd => hmore _ (ht.trans (decode_crcHigh hd.ge (hd ▸ hend))),
        fun hd => ht.trans (decode_crcLow (hd ▸ Nat.le_succ 3) hend (hd ▸ Nat.lt_succ_self 3))⟩

end Sys2Proof.Machine
end

section
namespace Sys2Proof.Machine

/-! ### The hunt for the lead (R122 to R124, R129, R140) -/

section
variable {s : State}

theorem hunts_of_cases (h : (s.engine = .listening ∧ s.dcd = true) ∨ s.engine = .testing) :
    s.hunts = true := by
  simpa [State.hunts] using h

/-- The bits of an octet in the order of the line, bit 0 first (R112). -/
theorem lineBits_eq_ofFn (o : Octet) :
    lineBits o = List.ofFn fun k : Fin 8 => o.getLsbD k.val := by
  simp [lineBits, List.ofFn_succ]

theorem exec_octetAlignmentTaken (hh : s.hunts = true) (hp : s.receiver.phase = .hunting)
    (bits : List Bool) : exec (.octetAlignmentTaken bits) s =
      .next { s with receiver := (s.receiver.hunt s.params.leadOctet bits).1 } :=
  congrArg Host.Outcome.next (if_pos ⟨hh, hp⟩)

theorem exec_leadDetected (hh : s.hunts = true) (hp : s.receiver.phase = .aligned) :
    exec .leadDetected s = .next
      { s with
        receiver := s.receiver.enterBody, replyTimer := none
        engine := if s.engine = .listening then .receiving else s.engine } :=
  congrArg Host.Outcome.next (if_pos ⟨hh, hp⟩)

theorem exec_alignmentGivenUp {o : Octet} (hh : s.hunts = true) (hp : s.receiver.phase = .aligned)
    (ho : o ≠ s.params.leadOctet) :
    exec (.alignmentGivenUp o) s = .next { s with receiver := s.receiver.giveUp o } :=
  congrArg Host.Outcome.next (if_pos ⟨hh, hp, ho⟩)

end

/-- Settles O52: the hunt with and without a match, and the octet behind the first LEAD. -/
theorem leadIsHuntedAndDetected : Obligations.LeadIsHuntedAndDetected := by
  unfold Obligations.LeadIsHuntedAndDetected
  intro s he
  have hh : s.hunts = true := hunts_of_cases he
  refine ⟨fun bits hp hw => ?_, fun hp => ⟨?_, fun o ho => ?_⟩⟩
  · intro lead
    have hlead : lead = lineBits s.params.leadOctet := (lineBits_eq_ofFn _).symm
    rw [hlead, exec_octetAlignmentTaken hh hp]
    refine ⟨fun n hn hl hm hfirst => ?_, fun hno => ?_⟩
    · rw [Receiver.hunt_of_match _ _ _ n hw hn hl hm hfirst]
      rfl
    · rw [Receiver.hunt_of_no_match _ _ _ hw hno]
  · have hengine : (if s.engine = .listening then EngineState.receiving else s.engine) =
        if s.engine = .listening then .receiving else .testing := by
      obtain ⟨he, _⟩ | he := he <;> simp [he]
    rw [exec_leadDetected hh hp, hengine]
    rfl
  · rw [exec_alignmentGivenUp hh hp ho, Receiver.giveUp, lineBits_eq_ofFn]

end Sys2Proof.Machine
end

section
namespace Sys2Proof.Machine

/-! ### Changes of CTS and DCD by engine state (R123, R128, R133, R137, R139, R141, R142) -/

section
variable {s : State} {a : Bool}

theorem noteLineChange_eq (s : State) : s.noteLineChange =
    { s with lineChange := s.lineChange || decide (s.engine ≠ .stopped) } := by
  unfold State.noteLineChange
  split
  · next h => rw [decide_eq_false (not_not.mpr h), Bool.or_false]
  · next h => rw [decide_eq_true h, Bool.or_true]

theorem noteLineChange_of_running (h : s.engine ≠ .stopped) :
    s.noteLineChange = { s with lineChange := true } := if_neg h

theorem ctsChanged_of_raising (he : s.engine = .raising) : s.ctsChanged true =
    { s with cts := true, lineChange := true, engine := .sending, ctsTimer := none } := by
  have hx : s.ctsChanged true =
      { { s with cts := true }.noteLineChange with engine := .sending, ctsTimer := none } := by
    simp only [State.ctsChanged, he]
  rw [hx, noteLineChange_of_running (by simp [he])]

theorem ctsChanged_of_sending (he : s.engine = .sending) : s.ctsChanged false =
    { s with cts := false, lineChange := true, ctsLoss := true } := by
  have hx : s.ctsChanged false =
      { { s with cts := false }.noteLineChange with ctsLoss := true } := by
    simp only [State.ctsChanged, he]
  rw [hx, noteLineChange_of_running (by simp [he])]

theorem ctsChanged_of_other (hr : s.engine = .raising → a = false)
    (hs : s.engine = .sending → a = true) :
    s.ctsChanged a = { s with cts := a }.noteLineChange := by
  unfold State.ctsChanged
  split
  · next he => cases hr he
  · next he => cases hs he
  · rfl

theorem dcdChanged_of_listening (he : s.engine = .listening)
    (hp : s.receiver.phase = .hunting ∨ s.receiver.phase = .aligned) : s.dcdChanged false =
      { s with
        dcd := false, lineChange := true
        receiver := { s.receiver with phase := .hunting, window := [], octetBits := [] } } := by
  have hx : s.dcdChanged false =
      { { s with dcd := false }.noteLineChange with
        receiver := { s with dcd := false }.noteLineChange.receiver.loseCarrier } := by
    simp only [State.dcdChanged, he]
  rw [hx, noteLineChange_of_running (by simp [he]), Receiver.loseCarrier_of_hunts hp]

theorem dcdChanged_of_settling (he : s.engine = .settling) : s.dcdChanged false =
    State.endTurn { s with dcd := false, lineChange := true, settleTimer := none } := by
  have hx : s.dcdChanged false =
      State.endTurn { { s with dcd := false }.noteLineChange with settleTimer := none } := by
    simp only [State.dcdChanged, he]
  rw [hx, noteLineChange_of_running (by simp [he])]

theorem dcd_missExchange (s : State) : s.missExchange.dcd = s.dcd := by
  obtain ⟨_, _, _, _, _, _, _, e⟩ := slotFrame_missExchange (s := s)
  rw [e]

/-- With DCD inactive settling ends in the event that would enter it (R142). -/
theorem enterSettling_of_noDcd (h : s.dcd = false) :
    s.enterSettling = State.endTurn { s with engine := .settling, receiver := Receiver.off } := by
  simp only [State.enterSettling, h, if_neg Bool.false_ne_true]

/-- The reply is a miss, and its turn ends with it (R128, R141, R142). -/
theorem dcdChanged_of_receiving (he : s.engine = .receiving) : s.dcdChanged false =
    State.endTurn
      { State.missExchange { s with dcd := false, lineChange := true } with
        engine := .settling, receiver := Receiver.off } := by
  have hx : s.dcdChanged false = { s with dcd := false }.noteLineChange.missExchange.enterSettling := by
    simp only [State.dcdChanged, he]
  rw [hx, noteLineChange_of_running (by simp [he]), enterSettling_of_noDcd (dcd_missExchange _)]

theorem dcdChanged_of_other (h : a = true ∨
    (s.engine ≠ .listening ∧ s.engine ≠ .receiving ∧ s.engine ≠ .settling)) :
    s.dcdChanged a = { s with dcd := a }.noteLineChange := by
  unfold State.dcdChanged
  split
  · next he => simp [he] at h
  · next he => simp [he] at h
  · next he => simp [he] at h
  · rfl

end

/-- Settles O48: each signal by the engine's state and the new level. -/
theorem modemChangesMoveTheEngine : Obligations.ModemChangesMoveTheEngine := by
  unfold Obligations.ModemChangesMoveTheEngine
  intro s a flag
  refine ⟨fun ha => ?_, fun ha => ?_⟩
  · have hx : exec (.ctsChange a) s = .next (s.ctsChanged a) := congrArg Host.Outcome.next (if_neg ha)
    rw [hx]
    refine ⟨?_, ?_, fun hr hs => ?_⟩
    · rintro he rfl
      rw [ctsChanged_of_raising he]
    · rintro he rfl
      rw [ctsChanged_of_sending he]
    · rw [ctsChanged_of_other hr hs, noteLineChange_eq]
  · have hx : exec (.dcdChange a) s = .next (s.dcdChanged a) := congrArg Host.Outcome.next (if_neg ha)
    rw [hx]
    refine ⟨?_, ?_, ?_, fun h => ?_⟩
    · rintro he rfl hp
      rw [dcdChanged_of_listening he hp]
    · rintro he rfl
      rw [dcdChanged_of_receiving he]
    · rintro he rfl
      rw [dcdChanged_of_settling he]
    · rw [dcdChanged_of_other h, noteLineChange_eq]

end Sys2Proof.Machine
end

section
namespace Sys2Proof.Machine

/-! ### LINE TEST, event by event (R145, R150, R151) -/

section
variable {s : State} {l : LineTest} {o : Octet} {rx : Receiver} {j : Judgement} {f : Frame}

/-- LINE TEST accepted without arguments, while no test runs: its own checks (R145, R150). -/
theorem lineTestEvent_of_inHand (h : s.inHand 0x53 []) (hl : s.lineTest = none) :
    s.lineTestEvent =
      if s.engine ≠ .stopped then s.finish 1 .lineRunning []
      else if s.staging = [] then s.finish 1 .length []
      else s.beginTest := by
  simp only [State.lineTestEvent, h]
  rw [if_pos ⟨rfl, hl⟩, if_neg (by simp [CommandName.row])]

theorem replyTimerExpiry_of_testing (he : s.engine = .testing) (ht : s.replyTimer.isSome = true) :
    s.replyTimerExpiry = s.endTest .noSignal := by
  simp only [State.replyTimerExpiry, he, if_pos ht]

/-- An octet that judges the block of a test (R127, R151). -/
theorem exec_blockJudged_of_testing (he : s.engine = .testing) (hl : s.lineTest = some l)
    (hp : s.receiver.phase = .body) (ht : s.takeOctet o = .judged rx j) :
    exec (.blockJudged o) s = .next (s.testJudged l rx j) := by
  have hb : s.takesBody = true := by simp [State.takesBody, he]
  show Host.Outcome.next (s.blockJudged o) = _
  simp only [State.blockJudged, if_pos (And.intro hb hp), ht, he, hl]

/-- Behind the last pad the judgement ends the test (R151). -/
theorem testJudged_of_sent (hf : s.framer = none) :
    s.testJudged l rx j =
      (s.enterStopped false).answered [(testVerdict l j).result.octet] := by
  simp only [State.testJudged, hf]
  rfl

/-- Before it the judgement is kept (R151). -/
theorem testJudged_of_sending (hf : s.framer.isSome = true) :
    s.testJudged l rx j =
      { s with receiver := rx, lineTest := some { l with verdict := some (testVerdict l j) } } := by
  obtain ⟨f, hf⟩ := Option.isSome_iff_exists.mp hf
  simp only [State.testJudged, hf]

/-- PASS for a GOOD block with address 0x00 and the text sent, MISMATCH otherwise (R151). -/
theorem testVerdict_good (l : LineTest) (k a ctl : Octet) (text : List Octet) :
    testVerdict l (.good k a ctl text) =
      if decide (a = 0 ∧ text = l.text) then .pass else .mismatch := by
  simp only [testVerdict, decide_eq_true_eq]

theorem result_octet_ite (b : Bool) :
    (if b then Verdict.pass else .mismatch).result.octet = if b then 0x30 else 0x31 := by
  cases b <;> rfl

theorem lastPadOctetEnded_of_testing (he : s.engine = .testing) (hl : s.lineTest = some l)
    (hf : s.framer = some f) (hs : f.crcEnd ≤ f.sent) : s.lastPadOctetEnded = s.testSent l := by
  simp only [State.lastPadOctetEnded, hf, if_pos hs, he, hl]

theorem testSent_of_judged {v : Verdict} (hv : l.verdict = some v) :
    s.testSent l = (s.enterStopped false).answered [v.result.octet] := by
  simp only [State.testSent, hv]
  rfl

theorem testSent_of_noLead (hv : l.verdict = none)
    (hp : s.receiver.phase = .hunting ∨ s.receiver.phase = .aligned) :
    s.testSent l =
      { s with framer := none, replyTimer := startTimer s.params.replyTimeout.toNat } := by
  obtain hp | hp := hp <;> simp only [State.testSent, hv, hp]

theorem testSent_of_body (hv : l.verdict = none) (hp : s.receiver.phase = .body) :
    s.testSent l = { s with framer := none } := by
  simp only [State.testSent, hv, hp]

end

/-- Settles O47: the begin by its checks, and each event of a test by the judgement, the framer and the lead. -/
theorem lineTestComparesTheLoop : Obligations.LineTestComparesTheLoop := by
  unfold Obligations.LineTestComparesTheLoop
  refine ⟨fun s h => ⟨fun hl => ?begin, fun he ht => ?noSignal⟩, fun s l he hl =>
    ⟨fun o a ctl text rx hp ht => ?good, fun o e rx hp ht => ?bad, fun hp => ?lead,
      fun f v hf hs hv => ?judged, fun f hf hs hv => ?sent⟩⟩
  case begin =>
    have hx : exec .lineTest s = .next s.lineTestEvent := rfl
    rw [State.refuses, State.refuses, hx, lineTestEvent_of_inHand h hl]
    refine ⟨fun hne => ?_, fun he hs => ?_, fun he hs => ?_⟩
    · rw [if_pos hne]; rfl
    · rw [if_neg (not_not.mpr he), if_pos hs]; rfl
    · rw [if_neg (not_not.mpr he), if_neg hs]; rfl
  case noSignal => exact congrArg Host.Outcome.next (replyTimerExpiry_of_testing he ht)
  case good =>
    intro pass
    rw [exec_blockJudged_of_testing he hl hp ht]
    refine ⟨fun hf => ?_, fun hf => ?_⟩
    · rw [testJudged_of_sent hf, testVerdict_good, result_octet_ite]
    · rw [testJudged_of_sending hf, testVerdict_good]
  case bad =>
    rw [exec_blockJudged_of_testing he hl hp ht]
    exact ⟨fun hf => congrArg _ (testJudged_of_sent hf),
      fun hf => congrArg _ (testJudged_of_sending hf)⟩
  case lead =>
    rw [exec_leadDetected (hunts_of_cases (.inr he)) hp, if_neg (by simp [he])]
    rfl
  case judged =>
    refine congrArg Host.Outcome.next ((lastPadOctetEnded_of_testing he hl hf hs).trans
      ((testSent_of_judged hv).trans ?_))
    cases v <;> rfl
  case sent =>
    have hx : exec .lastPadOctetEnded s = .next (s.testSent l) :=
      congrArg Host.Outcome.next (lastPadOctetEnded_of_testing he hl hf hs)
    rw [hx]
    exact ⟨fun hp => congrArg _ (testSent_of_noLead hv hp),
      fun hp => congrArg _ (testSent_of_body hv hp)⟩

end Sys2Proof.Machine
end

section
namespace Sys2Proof.Machine

-- One theorem after the other: checked all at once, these start more threads than the memory limit
-- allows.
set_option Elab.async false

/-! ### The engine state and the Parameter File under every event (R130, R143, R148, R153, R165) -/

/-- The engine is in neither STOPPED nor FAULT. -/
def State.Running (s : State) : Prop := s.engine ≠ .stopped ∧ s.engine ≠ .fault

/-- The engine keeps its state, or leaves one that is neither STOPPED nor FAULT for one that is not
FAULT. -/
def Turns (s t : State) : Prop := t.engine = s.engine ∨ s.Running ∧ t.engine ≠ .fault

/-- The three events at which the engine enters FAULT, with the code each writes (R143). -/
inductive FaultEvent : Instr → FaultCode → Prop
  | ctsTimeout : FaultEvent .ctsTimerExpiry .ctsTimeout
  | ctsLost : FaultEvent .ctsLost .ctsLost
  | carrierStuck : FaultEvent .settleTimerExpiry .carrierStuck

/-- The engine states and the parameters in which the event `c` may leave the state `s`. -/
inductive LineMove (c : Instr) (s : State) : EngineState → Params → Prop
  | kept : LineMove c s s.engine s.params
  | written {o : Octet} {p : Params} (hc : c = .parameterDataWrite o)
    (hp : s.params.write s.engine s.paramIndex o = some p) : LineMove c s s.engine p
  | turned {e : EngineState} (hs : s.Running) (he : e ≠ .fault) : LineMove c s e s.params
  | faulted {k : FaultCode} (hs : s.Running) (hc : FaultEvent c k) :
    LineMove c s .fault { s.params with lastFault := k }
  | started {e : EngineState} (hc : c = .startLine) (he : e ≠ .fault) : LineMove c s e s.params
  | tested (hc : c = .lineTest) (hs : s.engine = .stopped) : LineMove c s .testing s.params
  | halted (hc : c = .stopLine ∨ c = .abortLine) : LineMove c s .stopped s.params
  | reset (hc : c = .masterReset) : LineMove c s .stopped State.reset.params

section
variable {c : Instr} {s t : State}

theorem running_of_engine {e : EngineState} (he : s.engine = e) (hs : e ≠ .stopped := by decide)
    (hf : e ≠ .fault := by decide) : s.Running := by
  subst he
  exact ⟨hs, hf⟩

theorem LineMove.of_turns (h : Turns s t) (hp : t.params = s.params) :
    LineMove c s t.engine t.params := by
  rw [hp]
  obtain he | ⟨hs, he⟩ := h
  · rw [he]; exact .kept
  · exact .turned hs he

theorem SameLine.lineMove (h : SameLine s t) : LineMove c s t.engine t.params :=
  .of_turns (.inl (congrArg (·.drive.engine) h.line)) (congrArg LineSide.params h.line)

/-! #### Completions and port accesses -/

theorem LineMove.complete (n : CommandName) (body : List Octet → State → Completion)
    (hb : ∀ args, LineMove c s (body args s).state.engine (body args s).state.params) :
    LineMove c s (s.complete n body).engine (s.complete n body).params := by
  obtain e | ⟨_, _, _, e⟩ | ⟨args, _, _, e⟩ := s.complete_cases n body
  · rw [e]; exact .kept
  · rw [e]; exact .kept
  · rw [e]; exact hb args

theorem LineMove.completeModify (f : Octet) (rule : Slot → Octet → State → Completion)
    (hr : ∀ i v, SameLine s (rule i v s).state) :
    LineMove c s (s.completeModify f rule).engine (s.completeModify f rule).params := by
  unfold State.completeModify
  split
  · split
    · exact .complete _ _ fun args => (sameLine_modifyStation rule args hr).lineMove
    · exact .kept
  · exact .kept

theorem LineMove.portWrite (ht : LineMove c s t.engine t.params) :
    LineMove c s (s.portWrite t).engine (s.portWrite t).params := by
  unfold State.portWrite
  split
  · exact .kept
  · exact ht

theorem LineMove.portReadStep (o : Octet) (ht : LineMove c s t.engine t.params) :
    LineMove c s (s.portReadStep o t).engine (s.portReadStep o t).params := by
  unfold State.portReadStep
  split
  · exact .kept
  · exact ht

/-! #### The line commands and LINE TEST -/

theorem lineMove_tableReset (args : List Octet) :
    LineMove c s (tableReset args s).state.engine (tableReset args s).state.params := by
  unfold tableReset
  split <;> exact .kept

theorem engine_enterGap_ne_fault (s : State) : s.enterGap.engine ≠ .fault := by
  unfold State.enterGap
  split <;> nofun

theorem lineMove_startLine (args : List Octet) :
    LineMove .startLine s (startLine args s).state.engine (startLine args s).state.params := by
  have hstart : LineMove .startLine s s.startLine.engine s.startLine.params := by
    have hp : s.startLine.params = s.params := params_enterGap s
    rw [hp]
    exact .started rfl (engine_enterGap_ne_fault s)
  unfold startLine
  split
  case h_1 | h_2 => exact hstart
  all_goals exact .kept

theorem lineMove_stopLine (s : State) :
    LineMove .stopLine s s.stopLine.engine s.stopLine.params := by
  unfold State.stopLine
  split
  case h_1 | h_2 | h_3 | h_4 => exact .halted (.inl rfl)
  all_goals exact .kept

theorem lineMove_abortLine (s : State) : LineMove .abortLine s
    (s.abandonExchange.enterStopped true).engine (s.abandonExchange.enterStopped true).params := by
  have hp : (s.abandonExchange.enterStopped true).params = s.params := params_abandonExchange s
  rw [hp]
  exact .halted (.inr rfl)

theorem lineMove_lineTestEvent (s : State) :
    LineMove .lineTest s s.lineTestEvent.engine s.lineTestEvent.params := by
  unfold State.lineTestEvent
  split
  · exact .kept
  · split
    · split
      · exact .kept
      · split
        · exact .kept
        · next he =>
          split
          · exact .kept
          · exact .tested rfl (not_not.mp he)
    · exact .kept

/-! #### The entries into FAULT (R143) -/

theorem LineMove.enterFault {k : FaultCode} (hs : s.Running) (hc : FaultEvent c k)
    (hp : t.params = s.params) : LineMove c s (t.enterFault k).engine (t.enterFault k).params := by
  have he : (t.enterFault k).params = { s.params with lastFault := k } := by rw [← hp]; rfl
  rw [he]
  exact .faulted hs hc

theorem lineMove_ctsLostEvent (s : State) :
    LineMove .ctsLost s s.ctsLostEvent.engine s.ctsLostEvent.params := by
  unfold State.ctsLostEvent
  split
  · next h => exact .enterFault (running_of_engine h.1) .ctsLost (params_abandonExchange s)
  · exact .kept

theorem lineMove_ctsTimerExpiry (s : State) :
    LineMove .ctsTimerExpiry s s.ctsTimerExpiry.engine s.ctsTimerExpiry.params := by
  unfold State.ctsTimerExpiry
  split
  · next h => exact .enterFault (running_of_engine h.1) .ctsTimeout (params_abandonExchange s)
  · exact .kept

theorem lineMove_settleTimerExpiry (s : State) :
    LineMove .settleTimerExpiry s s.settleTimerExpiry.engine s.settleTimerExpiry.params := by
  unfold State.settleTimerExpiry
  split
  · next h => exact .enterFault (running_of_engine h.1) .carrierStuck rfl
  · exact .kept

/-! #### The events that move the engine from turn to turn -/

theorem engine_endTurn_ne_fault (s : State) : s.endTurn.engine ≠ .fault := by
  unfold State.endTurn
  split
  · nofun
  · exact engine_enterGap_ne_fault s

theorem engine_enterSettling_ne_fault (s : State) : s.enterSettling.engine ≠ .fault := by
  unfold State.enterSettling
  simp only
  split
  · nofun
  · exact engine_endTurn_ne_fault _

theorem turns_ctsChanged (s : State) (a : Bool) : Turns s (s.ctsChanged a) := by
  have heng : ({ s with cts := a }.noteLineChange).engine = s.engine := engine_noteLineChange _
  unfold State.ctsChanged
  simp only
  split
  · next he => exact .inr ⟨running_of_engine he, nofun⟩
  · exact .inl heng
  · exact .inl heng

theorem turns_dcdChanged (s : State) (a : Bool) : Turns s (s.dcdChanged a) := by
  have heng : ({ s with dcd := a }.noteLineChange).engine = s.engine := engine_noteLineChange _
  unfold State.dcdChanged
  simp only
  split
  · exact .inl heng
  · next he => exact .inr ⟨running_of_engine he, engine_enterSettling_ne_fault _⟩
  · next he => exact .inr ⟨running_of_engine he, engine_endTurn_ne_fault _⟩
  · exact .inl heng

theorem turns_lastCrcOctetSent (s : State) : Turns s s.lastCrcOctetSent := by
  unfold State.lastCrcOctetSent
  split
  · exact .inl rfl
  · split <;> exact .inl rfl

theorem engine_turnRound_ne_fault (s : State) (x : Context) :
    (s.turnRound x).engine ≠ .fault := by
  unfold State.turnRound
  split
  · exact engine_endTurn_ne_fault _
  all_goals nofun

theorem turns_testSent (he : s.engine = .testing) (l : LineTest) : Turns s (s.testSent l) := by
  unfold State.testSent
  simp only
  split
  · exact .inr ⟨running_of_engine he, nofun⟩
  · split <;> exact .inl rfl

theorem turns_lastPadOctetEnded (s : State) : Turns s s.lastPadOctetEnded := by
  unfold State.lastPadOctetEnded
  split
  · exact .inl rfl
  · split
    · split
      · next x he _ =>
        split
        · exact .inl rfl
        · exact .inr ⟨running_of_engine he, engine_turnRound_ne_fault s x⟩
      · next l he _ => exact turns_testSent he l
      · exact .inl rfl
    · exact .inl rfl

theorem turns_gapTimerExpiry (s : State) : Turns s s.gapTimerExpiry := by
  unfold State.gapTimerExpiry
  split
  · next h => exact .inr ⟨running_of_engine h.1, nofun⟩
  · exact .inl rfl

theorem turns_replyTimerExpiry (s : State) : Turns s s.replyTimerExpiry := by
  unfold State.replyTimerExpiry
  split
  · split
    case h_1 he => exact .inr ⟨running_of_engine he, engine_endTurn_ne_fault _⟩
    case h_2 he => exact .inr ⟨running_of_engine he, nofun⟩
    all_goals exact .inl rfl
  · exact .inl rfl

/-- The probe timer's expiry moves the scheduler's probe pass alone (R38, R39). -/
theorem probeTimerExpiry_frame (s : State) : s.probeTimerExpiry =
    { s with
      probeTimer := s.probeTimerExpiry.probeTimer, probePass := s.probeTimerExpiry.probePass
      probeCursor := s.probeTimerExpiry.probeCursor } := by
  unfold State.probeTimerExpiry
  split
  · simp only
    split <;> rfl
  · rfl

theorem turns_probeTimerExpiry (s : State) : Turns s s.probeTimerExpiry :=
  .inl (by rw [probeTimerExpiry_frame])

theorem engine_beginExchange_ne_fault (s : State) (x : Exchange) :
    (s.beginExchange x).engine ≠ .fault := by
  unfold State.beginExchange
  simp only
  split <;> nofun

theorem turns_select (s : State) : Turns s s.select := by
  obtain e | ⟨he, _, _, e⟩ | ⟨x, he, _, _, e⟩ := select_cases s
  · exact .inl (congrArg State.engine e)
  · obtain ⟨_, _, _, _, _, hpass, _⟩ := choose_fits (s := s).1
    exact .inl (by rw [e, hpass])
  · refine .inr ⟨running_of_engine he, ?_⟩
    rw [e]
    exact engine_beginExchange_ne_fault _ x

theorem turns_octetAlignmentTaken (s : State) (bits : List Bool) :
    Turns s (s.octetAlignmentTaken bits) := by
  unfold State.octetAlignmentTaken
  split <;> exact .inl rfl

theorem turns_alignmentGivenUp (s : State) (o : Octet) : Turns s (s.alignmentGivenUp o) := by
  unfold State.alignmentGivenUp
  split <;> exact .inl rfl

theorem turns_leadDetected (s : State) : Turns s s.leadDetected := by
  unfold State.leadDetected
  split
  · split
    · next he => exact .inr ⟨running_of_engine he, nofun⟩
    · exact .inl rfl
  · exact .inl rfl

theorem turns_bodyOctetDecoded (s : State) (o : Octet) : Turns s (s.bodyOctetDecoded o) := by
  unfold State.bodyOctetDecoded
  split
  · split <;> exact .inl rfl
  · exact .inl rfl

theorem turns_testJudged (he : s.engine = .testing) (l : LineTest) (rx : Receiver)
    (j : Judgement) : Turns s (s.testJudged l rx j) := by
  unfold State.testJudged
  simp only
  split
  · exact .inr ⟨running_of_engine he, nofun⟩
  · exact .inl rfl

theorem turns_blockJudged (s : State) (o : Octet) : Turns s (s.blockJudged o) := by
  unfold State.blockJudged
  split
  · split
    · exact .inl rfl
    · next rx j _ =>
      split
      · next he _ => exact .inr ⟨running_of_engine he, engine_enterSettling_ne_fault _⟩
      · next l he _ => exact turns_testJudged he l rx j
      · exact .inl rfl
  · exact .inl rfl

/-! #### Every command -/

/-- Every event moves the engine and the parameters in one of the ways of `LineMove`. -/
theorem lineMove_exec (c : Instr) (hx : exec c s = .next t) : LineMove c s t.engine t.params := by
  have hsame : ∀ (n : CommandName) (body : List Octet → State → Completion),
      (∀ args, SameLine s (body args s).state) →
        LineMove c s (s.complete n body).engine (s.complete n body).params :=
    fun n body hb => .complete n body fun args => (hb args).lineMove
  cases c <;> cases hx
  case acceptance => exact .portWrite (by split <;> exact .kept)
  case argumentWrite => exact .portWrite (by split <;> exact .kept)
  case resultRead => exact .portReadStep _ (by split <;> exact .kept)
  case unknownCommand =>
    split
    · split <;> exact .kept
    · exact .kept
  case admitStation => exact hsame _ _ sameLine_admitStation
  case findStation => exact hsame _ _ sameLine_findStation
  case readStation => exact hsame _ _ fun _ => sameLine_withSlot _ _ fun _ => .refl s
  case modifyStationAddress => exact .completeModify _ _ sameLine_modifyAddress
  case modifyStationGroup => exact .completeModify _ _ sameLine_modifyGroup
  case modifyStationQuietLimit => exact .completeModify _ _ fun _ _ => ⟨rfl, .inl rfl⟩
  case modifyStationClearCounters => exact .completeModify _ _ fun _ _ => ⟨rfl, .inl rfl⟩
  case holdStation => exact hsame _ _ sameLine_holdStation
  case releaseStation => exact hsame _ _ sameLine_releaseStation
  case retireStation => exact hsame _ _ sameLine_retireStation
  case syncStation => exact hsame _ _ sameLine_syncStation
  case tableReset => exact .complete _ _ lineMove_tableReset
  case ringInsert => exact hsame _ _ sameLine_ringInsert
  case ringRemove => exact hsame _ _ sameLine_ringRemove
  case ringRead => exact hsame _ _ sameLine_ringRead
  case ringStatus => exact hsame _ _ fun _ => .refl s
  case pollNow => exact hsame _ _ sameLine_pollNow
  case queueText => exact hsame _ _ sameLine_queueText
  case queueGroupText => exact hsame _ _ sameLine_queueGroupText
  case cancelText => exact hsame _ _ sameLine_cancelText
  case clearStaging => exact hsame _ _ fun _ => ⟨rfl, .inr rfl⟩
  case readInbound => exact hsame _ _ sameLine_readInbound
  case releaseInbound => exact hsame _ _ sameLine_releaseInbound
  case bufferStatus => exact hsame _ _ fun _ => .refl s
  case nextAttention => exact hsame _ _ sameLine_nextAttention
  case startLine => exact .complete _ _ lineMove_startLine
  case stopLine => exact .complete _ _ fun _ => lineMove_stopLine s
  case abortLine => exact .complete _ _ fun _ => lineMove_abortLine s
  case lineTest => exact lineMove_lineTestEvent s
  case stagingTextWrite => exact .portWrite (by split <;> exact .kept)
  case inboundTextRead => exact .portReadStep _ .kept
  case causeClearWrite => exact .portWrite .kept
  case maskWrite => exact .portWrite .kept
  case parameterIndexWrite => exact .portWrite .kept
  case parameterDataRead => exact .portReadStep _ .kept
  case parameterDataWrite =>
    refine .portWrite ?_
    split
    · next p hp => exact .written rfl hp
    · exact .kept
  case lineStatusRead => exact .portReadStep _ .kept
  case lineStatusPortWrite => exact .kept
  case masterReset => exact .reset rfl
  case rstReleased => exact .kept
  case ctsChange a =>
    split
    · exact .kept
    · exact .of_turns (turns_ctsChanged s a) (params_ctsChanged s a)
  case dcdChange a =>
    split
    · exact .kept
    · exact .of_turns (turns_dcdChanged s a) (params_dcdChanged s a)
  case ctsLost => exact lineMove_ctsLostEvent s
  case selection => exact .of_turns (turns_select s) (params_select s)
  case lastCrcOctetSent => exact .of_turns (turns_lastCrcOctetSent s) (params_lastCrcOctetSent s)
  case lastPadOctetEnded => exact .of_turns (turns_lastPadOctetEnded s) (params_lastPadOctetEnded s)
  case leadDetected => exact .of_turns (turns_leadDetected s) (params_leadDetected s)
  case blockJudged o => exact .of_turns (turns_blockJudged s o) (params_blockJudged s o)
  case gapTimerExpiry => exact .of_turns (turns_gapTimerExpiry s) (params_gapTimerExpiry s)
  case ctsTimerExpiry => exact lineMove_ctsTimerExpiry s
  case replyTimerExpiry => exact .of_turns (turns_replyTimerExpiry s) (params_replyTimerExpiry s)
  case settleTimerExpiry => exact lineMove_settleTimerExpiry s
  case probeTimerExpiry => exact .of_turns (turns_probeTimerExpiry s) (params_probeTimerExpiry s)
  case octetAlignmentTaken bits =>
    exact .of_turns (turns_octetAlignmentTaken s bits) (params_octetAlignmentTaken s bits)
  case alignmentGivenUp o =>
    exact .of_turns (turns_alignmentGivenUp s o) (params_alignmentGivenUp s o)
  case bodyOctetDecoded o =>
    exact .of_turns (turns_bodyOctetDecoded s o) (params_bodyOctetDecoded s o)

/-! ### The last fault code (R143, R154, R157, R165) -/

/-- A write that leaves `w` keeps the last fault code. -/
def Params.SameFault (p : Params) (w : Option Params) : Prop :=
  ∀ q, w = some q → q.lastFault = p.lastFault

theorem Params.SameFault.refused {p : Params} : p.SameFault none := nofun

theorem Params.SameFault.taken {p q : Params} (h : q.lastFault = p.lastFault) :
    p.SameFault (some q) := by
  rintro _ ⟨⟩
  exact h

theorem Params.SameFault.ite {p : Params} {b : Prop} [Decidable b] {w w' : Option Params}
    (h : p.SameFault w) (h' : p.SameFault w') : p.SameFault (if b then w else w') := by
  split
  · exact h
  · exact h'

/-- A value taken or refused (R157). -/
theorem Params.SameFault.judged {p q : Params} {b : Prop} [Decidable b]
    (h : q.lastFault = p.lastFault) : p.SameFault (if b then some q else none) :=
  .ite (.taken h) .refused

theorem Params.sameFault_writeFormat (p : Params) (i v : Octet) :
    p.SameFault (p.writeFormat i v) := by
  unfold Params.writeFormat
  exact .ite (.judged rfl) <| .ite (.judged rfl) <| .ite (.judged rfl) <| .ite (.judged rfl) <|
    .ite (.ite (.taken rfl) (.judged rfl)) <| .ite (.taken rfl) <| .ite (.judged rfl) .refused

theorem Params.sameFault_writeTimed (p : Params) (i v : Octet) :
    p.SameFault (p.writeTimed i v) := by
  unfold Params.writeTimed
  exact .ite (.judged rfl) <| .ite (.judged rfl) <| .ite (.judged rfl) <| .ite (.judged rfl) <|
    .ite (.judged rfl) <| .ite (.judged rfl) <| .ite (.judged rfl) <| .ite (.judged rfl) .refused

/-- No write sets the last fault code: index 0x0F is read-only (R165). -/
theorem Params.sameFault_write (p : Params) (e : EngineState) (i v : Octet) :
    p.SameFault (p.write e i v) := by
  unfold Params.write
  exact .ite (.ite (p.sameFault_writeFormat i v) .refused) (p.sameFault_writeTimed i v)

/-- A write at index 0x0F is refused (R165). -/
theorem Params.write_lastFault (p : Params) (e : EngineState) (v : Octet) :
    p.write e 0x0F v = none := rfl

theorem Params.readAt_lastFault (p : Params) : p.readAt 0x0F = p.lastFault.code := rfl

theorem exec_parameterDataRead_of_lastFault (hr : s.rstLow = false) (hk : s.paramIndex = 0x0F) :
    exec .parameterDataRead s =
      .next { s with dataOut := s.params.lastFault.code, paramIndex := 0x10 } := by
  rw [exec_of_portReadStep hr rfl, hk, Params.readAt_lastFault]
  rfl

theorem exec_parameterDataWrite_of_lastFault (v : Octet) (hr : s.rstLow = false)
    (hk : s.paramIndex = 0x0F) : exec (.parameterDataWrite v) s =
      .next { s with paramRefused := true, paramIndex := 0x10 } := by
  rw [exec_of_portWrite hr rfl, hk, Params.write_lastFault]
  rfl

/-- The last fault code changes at an entry into FAULT and at master reset alone. -/
theorem LineMove.lastFault {e : EngineState} {p : Params} (h : LineMove c s e p)
    (hne : p.lastFault ≠ s.params.lastFault) :
    (s.engine ≠ .fault ∧ e = .fault) ∨ c = .masterReset := by
  cases h with
  | written _ hp => exact absurd (Params.sameFault_write _ _ _ _ _ hp) hne
  | faulted hs _ => exact .inl ⟨hs.2, rfl⟩
  | reset hc => exact .inr hc
  | kept | turned _ _ | started _ _ | tested _ _ | halted _ => exact absurd rfl hne

/-- An entry into FAULT is one of the three events, and its code is the last fault code (R143). -/
theorem LineMove.faultEntered {e : EngineState} {p : Params} (h : LineMove c s e p)
    (hs : s.engine ≠ .fault) (he : e = .fault) : FaultEvent c p.lastFault := by
  cases h with
  | faulted _ hc => exact hc
  | kept | written _ _ => exact absurd he hs
  | turned _ hne | started _ hne => exact absurd he hne
  | tested _ _ | halted _ | reset _ => cases he

theorem LineMove.leavesStopped {e : EngineState} {p : Params} (h : LineMove c s e p)
    (hs : s.engine = .stopped) (he : e ≠ .stopped) : c = .startLine ∨ c = .lineTest := by
  cases h with
  | started hc _ => exact .inl hc
  | tested hc _ => exact .inr hc
  | kept | written _ _ => exact absurd hs he
  | turned hr _ | faulted hr _ => exact absurd hs hr.1
  | halted _ | reset _ => exact absurd rfl he

theorem LineMove.leavesFault {e : EngineState} {p : Params} (h : LineMove c s e p)
    (hs : s.engine = .fault) (he : e ≠ .fault) :
    c = .startLine ∨ c = .stopLine ∨ c = .abortLine ∨ c = .masterReset := by
  cases h with
  | started hc _ => exact .inl hc
  | halted hc => exact .inr (hc.imp_right .inl)
  | reset hc => exact .inr (.inr (.inr hc))
  | kept | written _ _ => exact absurd hs he
  | turned hr _ | faulted hr _ => exact absurd hs hr.2
  | tested _ hst => rw [hs] at hst; cases hst

theorem FaultEvent.cases_code {k : FaultCode} (h : FaultEvent c k) :
    (c = .ctsTimerExpiry ∧ k = .ctsTimeout) ∨ (c = .ctsLost ∧ k = .ctsLost) ∨
      (c = .settleTimerExpiry ∧ k = .carrierStuck) := by
  cases h with
  | ctsTimeout => exact .inl ⟨rfl, rfl⟩
  | ctsLost => exact .inr (.inl ⟨rfl, rfl⟩)
  | carrierStuck => exact .inr (.inr ⟨rfl, rfl⟩)

end

/-- Settles O3: of the moves that an event may make, those that leave STOPPED or FAULT. -/
theorem lineStaysStoppedOrInFault : Obligations.LineStaysStoppedOrInFault :=
  fun c _ _ hx => ⟨(lineMove_exec c hx).leavesStopped, (lineMove_exec c hx).leavesFault⟩

/-- Settles O15: the entries into FAULT and reset among the moves, and index 0x0F by its read and its
refused write. -/
theorem lastFaultIsTheLatestFault : Obligations.LastFaultIsTheLatestFault := by
  unfold Obligations.LastFaultIsTheLatestFault
  refine ⟨fun c s t hx hs ht => ((lineMove_exec c hx).faultEntered hs ht).cases_code,
    fun c s t hx => (lineMove_exec c hx).lastFault,
    fun s => exec_parameterDataRead_of_lastFault, ⟨rfl, rfl, rfl, rfl⟩,
    fun s v => exec_parameterDataWrite_of_lastFault v, fun s t hx => ?_⟩
  cases hx
  rfl

end Sys2Proof.Machine
end

section
namespace Sys2Proof.Machine

/-! ### RAISING while octet times pass (R134, R137) -/

/-- FAULT, entered at the expiry of the CTS timer, with no exchange left (R137, R143). -/
structure State.TimedOut (s : State) : Prop where
  engine : s.engine = .fault
  code : s.params.lastFault = .ctsTimeout
  context : s.context = none
  cause : s.causeLineFault = true

section
variable {s : State} {p n : Nat}

theorem State.TimedOut.probeTimerExpiry (h : s.TimedOut) : s.probeTimerExpiry.TimedOut := by
  rw [probeTimerExpiry_frame]
  exact ⟨h.engine, h.code, h.context, h.cause⟩

theorem timerDue_none : timerDue none = false := rfl

theorem State.whenever_false (s : State) (event : State → State) : s.whenever false event = s := rfl

theorem State.ticks_succ (s : State) (k : Nat) : s.ticks (k + 1) = s.octetTime.ticks k := rfl

theorem ctsTimer_countTimers (ht : s.ctsTimer = some { period := p, count := n }) :
    s.countTimers.ctsTimer = some { period := p, count := n + 1 } :=
  congrArg (Option.map Timer.tick) ht

theorem select_of_not_ready (h : s.engine ≠ .ready) : s.select = s :=
  s.select_of_not fun hr => h hr.1

theorem transmitOctet_of_raising (h : s.engine = .raising) : s.transmitOctet = s := by
  simp only [State.transmitOctet, h]

theorem timedOut_ctsTimerExpiry (he : s.engine = .raising) (ht : s.ctsTimer.isSome = true) :
    s.ctsTimerExpiry.TimedOut := by
  rw [State.ctsTimerExpiry, if_pos ⟨he, ht⟩]
  exact ⟨rfl, rfl, context_abandonExchange, rfl⟩

/-- In RAISING the CTS timer and the probe timer alone run (R134). -/
theorem expireTimers_of_raising (h : s.EngineWf) (he : s.engine = .raising) : s.expireTimers =
    (s.whenever (timerDue s.ctsTimer) State.ctsTimerExpiry).whenever (timerDue s.probeTimer)
      State.probeTimerExpiry := by
  obtain ⟨c, f, hr⟩ := h.raises he
  simp only [State.expireTimers, hr.replyTimer, hr.settleTimer, hr.gapTimer, timerDue_none,
    State.whenever_false]

/-- In RAISING an octet time counts the timers, and those whose periods are counted expire (R134). -/
theorem octetTime_of_raising (he : s.engine = .raising) :
    s.octetTime = s.countTimers.expireTimers.select := by
  have hcount : s.countTimers.engine = .raising := he
  rw [State.octetTime, select_of_not_ready (s := s) (by rw [he]; nofun),
    transmitOctet_of_raising hcount]

/-- Before its period is counted the CTS timer goes on in RAISING (R134). -/
theorem octetTime_of_raising_counting (h : s.EngineWf) (he : s.engine = .raising)
    (ht : s.ctsTimer = some { period := p, count := n }) (hn : n + 1 < p) :
    s.octetTime.engine = .raising ∧
      s.octetTime.ctsTimer = some { period := p, count := n + 1 } := by
  have htimer := ctsTimer_countTimers ht
  have hnot : timerDue s.countTimers.ctsTimer = false := by
    rw [htimer]
    exact decide_eq_false (Nat.not_le.mpr hn)
  have hkept : s.countTimers.expireTimers.engine = .raising ∧
      s.countTimers.expireTimers.ctsTimer = some { period := p, count := n + 1 } := by
    rw [expireTimers_of_raising (engineWf_countTimers h) he, hnot]
    exact State.whenever_keeps (s := s.countTimers)
      (P := fun u => u.engine = .raising ∧ u.ctsTimer = some { period := p, count := n + 1 }) _ _
      (fun hu => by rw [probeTimerExpiry_frame]; exact hu) ⟨he, htimer⟩
  rw [octetTime_of_raising he, select_of_not_ready (by rw [hkept.1]; nofun)]
  exact hkept

/-- The octet time that completes its period ends RAISING in FAULT (R137). -/
theorem timedOut_octetTime (h : s.EngineWf) (he : s.engine = .raising)
    (ht : s.ctsTimer = some { period := n + 1, count := n }) : s.octetTime.TimedOut := by
  have htimer := ctsTimer_countTimers ht
  have hdue : timerDue s.countTimers.ctsTimer = true := by
    rw [htimer]
    exact decide_eq_true (Nat.le_refl _)
  have hout : s.countTimers.expireTimers.TimedOut := by
    rw [expireTimers_of_raising (engineWf_countTimers h) he, hdue]
    exact State.whenever_keeps _ _ State.TimedOut.probeTimerExpiry
      (timedOut_ctsTimerExpiry he (by rw [htimer]; rfl))
  rw [octetTime_of_raising he, select_of_not_ready (by rw [hout.engine]; nofun)]
  exact hout

/-- With `m + 1` octet times of its period left, the CTS timer runs `m` of them in RAISING and expires
at the last. -/
theorem ticks_of_raising (m : Nat) (h : s.EngineWf) (he : s.engine = .raising)
    (ht : s.ctsTimer = some { period := n + m + 1, count := n }) :
    (∀ k ≤ m, (s.ticks k).engine = .raising) ∧ (s.ticks (m + 1)).TimedOut := by
  induction m generalizing s n with
  | zero =>
    rw [State.ticks_succ]
    refine ⟨fun k hk => ?_, timedOut_octetTime h he ht⟩
    obtain rfl : k = 0 := Nat.le_zero.mp hk
    exact he
  | succ m ih =>
    obtain ⟨he', ht'⟩ := octetTime_of_raising_counting h he ht (by omega)
    obtain ⟨hraising, hout⟩ := ih (engineLaw.octetTime h) he' (n := n + 1)
      (by rw [ht', Nat.add_right_comm n 1 m]; rfl)
    rw [State.ticks_succ]
    refine ⟨fun k hk => ?_, hout⟩
    cases k with
    | zero => exact he
    | succ k => exact hraising k (by omega)

end

/-- Settles O4: octet time by octet time, with the engine's law kept by each. -/
theorem raisingTimesOutAfterItsPeriod : Obligations.RaisingTimesOutAfterItsPeriod := by
  unfold Obligations.RaisingTimesOutAfterItsPeriod
  intro s p n h he ht hn
  obtain ⟨m, rfl⟩ : ∃ m, p = n + m + 1 := ⟨p - n - 1, by omega⟩
  obtain ⟨hraising, hout⟩ := ticks_of_raising m h he ht
  have hm : n + m + 1 - n = m + 1 := by omega
  rw [hm]
  exact ⟨fun k hk => hraising k (Nat.lt_succ_iff.mp hk), hout.engine, hout.code, hout.context,
    hout.cause⟩

/-- Settles O1: by the queue, empty or not. -/
theorem stepTakesTheFrontCommand : Obligations.StepTakesTheFrontCommand := by
  unfold Obligations.StepTakesTheFrontCommand
  refine ⟨fun s c rest h => ?_, fun s h => ?_⟩
  · simp only [step, h]
  · simp only [step, h]

end Sys2Proof.Machine
end

section
namespace Sys2Proof.Machine

/-! ### The judgement of a parameter write (R157 to R164) -/

/-- The parameters after a write of `v` that is taken at the index `k`; those from 15 on take none. -/
def Params.stored (p : Params) (v : Octet) : Nat → Params
  | 0 => { p with leadOctet := v }
  | 1 => { p with prefixOctet := v }
  | 2 => { p with leadCount := v }
  | 3 => { p with padCount := v }
  | 4 => { p with clockSource := if v = 0 then .modem else .internal }
  | 5 => { p with divisorLowHeld := v }
  | 6 => { p with divisor := p.formedDivisor v }
  | 7 => { p with replyTimeout := v }
  | 8 => { p with ctsTimeout := v }
  | 9 => { p with turnaroundGap := v }
  | 10 => { p with probeInterval := v }
  | 11 => { p with suspectThreshold := v }
  | 12 => { p with lostThreshold := v }
  | 13 => { p with retryLimit := v }
  | 14 => { p with groupRepeat := v }
  | _ => p

/-- A write at the index `k` of value `v` is answered by `w` as its legality says (R157). -/
def State.Judged (s : State) (k : Nat) (v : Octet) (w : Option Params) : Prop :=
  ∀ q, w = some q ↔ s.writeIsLegal k v ∧ q = s.params.stored v k

section
variable {s : State} {i v : Octet} {k : Nat} {w : Option Params}

theorem State.Judged.of_iff {b : Prop} [Decidable b] (h : b ↔ s.writeIsLegal k v) :
    s.Judged k v (if b then some (s.params.stored v k) else none) := fun q => by
  rw [Option.ite_none_right_eq_some, h, Option.some_inj, eq_comm (a := q)]

theorem State.Judged.of_legal (h : s.writeIsLegal k v) :
    s.Judged k v (some (s.params.stored v k)) := fun q => by
  rw [Option.some_inj, eq_comm, and_iff_right h]

theorem State.Judged.of_not (h : ¬ s.writeIsLegal k v) : s.Judged k v none := fun _ =>
  ⟨nofun, fun hq => absurd hq.1 h⟩

theorem State.Judged.eq_none (h : s.Judged k v w) (hv : ¬ s.writeIsLegal k v) : w = none :=
  Option.eq_none_iff_forall_ne_some.mpr fun q hq => hv ((h q).mp hq).1

theorem State.Judged.eq_some (h : s.Judged k v w) (hv : s.writeIsLegal k v) :
    w = some (s.params.stored v k) :=
  (h _).mpr ⟨hv, rfl⟩

/-! #### The values that each range admits -/

theorem inRange_iff {lo hi : Nat} : inRange lo hi v = true ↔ lo ≤ v.toNat ∧ v.toNat ≤ hi := by
  simp [inRange]

theorem inRange_octet_iff {lo : Nat} : inRange lo 255 v = true ↔ lo ≤ v.toNat := by
  rw [inRange_iff]
  exact and_iff_left (by have := v.isLt; omega)

theorem eq_escaped_comm {a b : Octet} : a = escaped b ↔ b = escaped a :=
  ⟨fun h => by rw [h, escaped_escaped], fun h => by rw [h, escaped_escaped]⟩

/-- Of a new LEAD the legal pair asks nothing but what R117 says of LEAD, once PREFIX is legal. -/
theorem legalPair_lead_iff {pre : Octet} (hpre : pre ≠ 0xFF) : legalPair v pre = true ↔
    v ≠ 0x00 ∧ v ≠ 0xFF ∧ v ≠ pre ∧ v ≠ escaped pre := by
  rw [legalPair_iff]
  tauto

/-- Of a new PREFIX the legal pair asks nothing but what R117 says of PREFIX, once LEAD is legal. -/
theorem legalPair_prefix_iff {lead : Octet} (h0 : lead ≠ 0x00) (hFF : lead ≠ 0xFF) :
    legalPair lead v = true ↔ v ≠ 0xFF ∧ v ≠ lead ∧ v ≠ escaped lead := by
  rw [legalPair_iff, ne_comm (a := lead) (b := v), ne_eq lead (escaped v), eq_escaped_comm]
  tauto

theorem inRange_zero_iff {hi : Nat} : inRange 0 hi v = true ↔ v.toNat ≤ hi := by
  simp [inRange]

theorem inRange_and_iff {lo hi : Nat} {b : Prop} [Decidable b] :
    (inRange lo hi v && decide b) = true ↔ lo ≤ v.toNat ∧ v.toNat ≤ hi ∧ b := by
  rw [Bool.and_eq_true, inRange_iff, decide_eq_true_iff, and_assoc]

theorem divisorMin_le_formedDivisor_iff (p : Params) (v : Octet) :
    Config.divisorMin ≤ (p.formedDivisor v).toNat ↔
      12 ≤ 256 * v.toNat + p.divisorLowHeld.toNat := by
  have h := p.divisorLowHeld.isLt
  rw [Params.formedDivisor, BitVec.toNat_append, ← Nat.shiftLeft_add_eq_or_of_lt h,
    Nat.shiftLeft_eq, Nat.mul_comm]

/-- No index above 14 takes a value (R157, R165). -/
theorem writeIsLegal_index_le (h : s.writeIsLegal k v) : k ≤ 14 := by
  by_contra hk
  obtain ⟨m, rfl⟩ : ∃ m, k = m + 15 := ⟨k - 15, by omega⟩
  exact h.2

/-- CLOCK SOURCE takes 0 and 1 (R160). -/
theorem judged_clockSource (he : s.engine = .stopped) :
    s.Judged 4 v (s.params.writeFormat 0x04 v) := by
  have hl : s.writeIsLegal 4 v ↔ v.toNat ≤ 1 := and_iff_right fun _ => he
  by_cases h0 : v = 0
  · subst h0
    exact .of_legal (hl.mpr (by decide))
  by_cases h1 : v = 1
  · subst h1
    exact .of_legal (hl.mpr (by decide))
  · have hw : s.params.writeFormat 0x04 v = none := (if_neg h0).trans (if_neg h1)
    rw [hw]
    exact .of_not fun h => by have := hl.mp h; bv_omega

/-- While STOPPED a format parameter takes the legal values of its index (R158 to R161). -/
theorem judged_writeFormat (h : s.params.Legal) (he : s.engine = .stopped) (hi : i.toNat ≤ 6) :
    s.Judged i.toNat v (s.params.writeFormat i v) := by
  obtain ⟨_, _, hlead0, hleadFF, hpre⟩ := legalPair_iff.mp h.1
  have hrow {k : Nat} {P : Prop} : P ↔ (k ≤ 6 → s.engine = .stopped) ∧ P :=
    (and_iff_right fun _ => he).symm
  obtain ⟨n, hn, rfl⟩ : ∃ n ≤ 6, i = BitVec.ofNat 8 n := ⟨i.toNat, hi, by simp⟩
  interval_cases n
  · exact .of_iff ((legalPair_lead_iff hpre).trans hrow)
  · exact .of_iff ((legalPair_prefix_iff hlead0 hleadFF).trans hrow)
  · exact .of_iff (inRange_iff.trans hrow)
  · exact .of_iff (inRange_iff.trans hrow)
  · exact judged_clockSource he
  · exact .of_legal (hrow.mp trivial)
  · exact .of_iff ((divisorMin_le_formedDivisor_iff _ _).trans hrow)

/-- A timing or threshold parameter takes the legal values of its index in every engine state (R162 to
R164). -/
theorem judged_writeTimed (hi : 6 < i.toNat) :
    s.Judged i.toNat v (s.params.writeTimed i v) := by
  have hrow {k : Nat} {P : Prop} (hk : 6 < k) : P ↔ (k ≤ 6 → s.engine = .stopped) ∧ P :=
    (and_iff_right fun h => absurd h (Nat.not_le.mpr hk)).symm
  by_cases hlast : i.toNat ≤ 14
  · obtain ⟨n, hlo, hn, rfl⟩ : ∃ n, 6 < n ∧ n ≤ 14 ∧ i = BitVec.ofNat 8 n :=
      ⟨i.toNat, hi, hlast, by simp⟩
    interval_cases n
    · exact .of_iff (inRange_octet_iff.trans (hrow hi))
    · exact .of_iff (inRange_octet_iff.trans (hrow hi))
    · exact .of_iff (inRange_zero_iff.trans (hrow hi))
    · exact .of_iff (inRange_octet_iff.trans (hrow hi))
    · exact .of_iff (inRange_and_iff.trans (hrow hi))
    · exact .of_iff (inRange_and_iff.trans (hrow hi))
    · exact .of_iff (inRange_iff.trans (hrow hi))
    · exact .of_iff (inRange_iff.trans (hrow hi))
  · have hne (a : Octet) (ha : a.toNat ≤ 14) : i ≠ a := by rintro rfl; exact hlast ha
    have hw : s.params.writeTimed i v = none := by simp [Params.writeTimed, hne]
    rw [hw]
    exact .of_not fun h => hlast (writeIsLegal_index_le h)

/-- A PARAMETER DATA write is judged by its legality (R157, R158). -/
theorem judged_write (h : s.params.Legal) :
    s.Judged i.toNat v (s.params.write s.engine i v) := by
  unfold Params.write
  split
  · next hi =>
    split
    · next he => exact judged_writeFormat h he hi
    · next he => exact .of_not fun hl => he (hl.1 hi)
  · next hi => exact judged_writeTimed (Nat.not_le.mp hi)

end

/-! ### What a taken write leaves (R154, R155, R158, R161) -/

/-- The format parameters and the held divisor low octet are the same (R158, R161). -/
def Params.SameFormat (p q : Params) : Prop :=
  q.leadOctet = p.leadOctet ∧ q.prefixOctet = p.prefixOctet ∧ q.leadCount = p.leadCount ∧
    q.padCount = p.padCount ∧ q.clockSource = p.clockSource ∧ q.divisor = p.divisor ∧
    q.divisorLowHeld = p.divisorLowHeld

section
variable {c : Instr} {s t : State} {p q : Params} {e : EngineState} {i j v : Octet} {k : Nat}

theorem Params.SameFormat.refl (p : Params) : p.SameFormat p := ⟨rfl, rfl, rfl, rfl, rfl, rfl, rfl⟩

theorem Params.sameFormat_stored (hk : 6 < k) : p.SameFormat (p.stored v k) := by
  unfold Params.stored
  split
  case h_1 | h_2 | h_3 | h_4 | h_5 | h_6 | h_7 => omega
  all_goals exact .refl p

/-- Outside STOPPED a taken write is one of a timing or threshold parameter (R158). -/
theorem Params.write_of_not_stopped (he : e ≠ .stopped) (hq : p.write e i v = some q) :
    6 < i.toNat ∧ p.writeTimed i v = some q := by
  unfold Params.write at hq
  split at hq
  · cases hq
  · next hi => exact ⟨Nat.not_le.mp hi, hq⟩

theorem sameFormat_write (he : s.engine ≠ .stopped)
    (hq : s.params.write s.engine i v = some q) : s.params.SameFormat q := by
  obtain ⟨hi, hq⟩ := Params.write_of_not_stopped he hq
  obtain ⟨-, rfl⟩ := (judged_writeTimed hi q).mp hq
  exact Params.sameFormat_stored hi

theorem LineMove.sameFormat (h : LineMove c s e p) (hs : s.engine ≠ .stopped)
    (hc : c ≠ .masterReset) : s.params.SameFormat p := by
  cases h with
  | written _ hp => exact sameFormat_write hs hp
  | reset hr => exact absurd hr hc
  | kept | turned _ _ | faulted _ _ | started _ _ | tested _ _ | halted _ => exact .refl _

theorem highOctet_append (v w : Octet) : highOctet (v ++ w : Word16) = v :=
  BitVec.extractLsb'_append_eq_left

theorem clockSource_code_of_le_one (hv : v.toNat ≤ 1) :
    (if v = 0 then ClockSource.modem else .internal).code = v := by
  obtain rfl | rfl : v = 0 ∨ v = 1 := by bv_omega
  · rfl
  · rfl

/-- The divisor apart, a taken write sets the octet at its index and none else (R154). -/
theorem octets_stored (h : s.writeIsLegal k v) (h5 : k ≠ 5) (h6 : k ≠ 6) :
    (s.params.stored v k).octets = s.params.octets.set k v := by
  have hk := writeIsLegal_index_le h
  obtain rfl | h4 := eq_or_ne k 4
  · have hcode := clockSource_code_of_le_one h.2
    simp only [Params.octets, Params.stored, hcode, List.set]
  · obtain hlo | hhi : k < 4 ∨ 6 < k := by omega
    · interval_cases k <;> rfl
    · interval_cases k <;> rfl

theorem readAt_stored_self (h : s.writeIsLegal i.toNat v) (h5 : i ≠ 0x05) :
    (s.params.stored v i.toNat).readAt i = v := by
  by_cases h6 : i = 0x06
  · subst h6
    exact highOctet_append v _
  · have hlt : i.toNat < s.params.octets.length := Nat.lt_succ_of_le
      (Nat.le_succ_of_le (writeIsLegal_index_le h))
    rw [readAt_eq_octets, octets_stored h (by bv_omega) (by bv_omega)]
    simp [hlt]

theorem readAt_stored_of_ne (h : s.writeIsLegal i.toNat v) (h5 : i ≠ 0x05) (h6 : i ≠ 0x06)
    (hj : j ≠ i) : (s.params.stored v i.toNat).readAt j = s.params.readAt j := by
  have hne : i.toNat ≠ j.toNat := by bv_omega
  rw [readAt_eq_octets, readAt_eq_octets, octets_stored h (by bv_omega) (by bv_omega)]
  simp [List.getElem?_set_ne hne]

theorem divisorLowHeld_stored (h5 : k ≠ 5) :
    (p.stored v k).divisorLowHeld = p.divisorLowHeld := by
  unfold Params.stored
  split
  case h_6 => exact absurd rfl h5
  all_goals rfl

/-! #### The ports (R155, R157) -/

theorem exec_parameterDataWrite_of_taken (hr : s.rstLow = false)
    (hp : s.params.write s.engine s.paramIndex v = some p) :
    exec (.parameterDataWrite v) s =
      .next { s with params := p, paramRefused := false, paramIndex := s.paramIndex + 1 } := by
  rw [exec_of_portWrite hr rfl, hp]

theorem exec_parameterDataWrite_of_refused (hr : s.rstLow = false)
    (hp : s.params.write s.engine s.paramIndex v = none) :
    exec (.parameterDataWrite v) s =
      .next { s with paramRefused := true, paramIndex := s.paramIndex + 1 } := by
  rw [exec_of_portWrite hr rfl, hp]

theorem paramIndex_parameterDataWrite (hr : s.rstLow = false)
    (hx : exec (.parameterDataWrite v) s = .next t) : t.paramIndex = s.paramIndex + 1 := by
  cases hp : s.params.write s.engine s.paramIndex v with
  | none => rw [exec_parameterDataWrite_of_refused hr hp] at hx; cases hx; rfl
  | some p => rw [exec_parameterDataWrite_of_taken hr hp] at hx; cases hx; rfl

theorem paramIndex_parameterDataRead (hr : s.rstLow = false)
    (hx : exec .parameterDataRead s = .next t) : t.paramIndex = s.paramIndex + 1 := by
  rw [exec_of_portReadStep hr rfl] at hx
  cases hx
  rfl

theorem portRead_parameterIndex (hr : s.rstLow = false) : s.portRead 5 = s.paramIndex := by
  simp [State.portRead, hr]

end

/-- Settles O16: of the moves that an event may make, a parameter write outside STOPPED is none of a
format parameter. -/
theorem formatIsFixedWhileTheLineRuns : Obligations.FormatIsFixedWhileTheLineRuns :=
  fun c _ _ hx => (lineMove_exec c hx).sameFormat

/-- Settles O26: the judgement says which writes are taken, and `Params.stored` what they leave. -/
theorem parameterWritesAreJudged : Obligations.ParameterWritesAreJudged := by
  unfold Obligations.ParameterWritesAreJudged
  intro s v hr hp
  have hj : s.Judged s.paramIndex.toNat v _ := judged_write hp
  refine ⟨fun hv => exec_parameterDataWrite_of_refused hr (hj.eq_none hv), fun hv =>
    ⟨_, exec_parameterDataWrite_of_taken hr (hj.eq_some hv), fun h5 => ?_, fun h6 => ?_,
      readAt_stored_self hv, fun h5 h6 =>
        ⟨divisorLowHeld_stored (by bv_omega), fun j => readAt_stored_of_ne hv h5 h6⟩⟩⟩
  · rw [h5]; rfl
  · rw [h6]; rfl

/-- Settles O25: each access of the two ports by its own state. -/
theorem parameterIndexIsWrittenAndAdvances : Obligations.ParameterIndexIsWrittenAndAdvances :=
  fun _ _ hr => ⟨exec_of_portWrite hr rfl, portRead_parameterIndex hr,
    fun _ => paramIndex_parameterDataRead hr, fun _ => paramIndex_parameterDataWrite hr, rfl⟩

end Sys2Proof.Machine
end

section
namespace Sys2Proof.Machine

-- One theorem after the other: checked all at once, these start more threads than the memory limit
-- allows.
set_option Elab.async false

/-! ### What an event leaves of the command in progress (R169 to R176) -/

/-- The waiting commands and the command in progress, which no block but the port touches. -/
def State.commands (s : State) : List Instr × Option Command := (s.pending, s.command)

/-- A result code that says that a check stopped the command (R174). -/
def ResultCode.isCheck (c : ResultCode) : Bool :=
  decide (0x10 ≤ c.octet.toNat) && decide (c.octet.toNat ≤ 0x22)

/-- What a command's own rule may answer in the state `s`: a check stops it and nothing changes, or a queue command finds no
buffer (R80), or it is carried out. -/
inductive Answers (s : State) : Completion → Prop
  | refused {c : ResultCode} (hc : c ≠ .noBuffer := by decide) : Answers s (refuse s c)
  | noBuffer : Answers s (refuseNoBuffer s)
  | carriedOut {u : State} {c : ResultCode} {d : List Octet} (hp : u.pending = s.pending := by rfl)
    (hc : c.isCheck = false := by rfl) : Answers s (answer u c d)

/-- What an event may leave of the command in progress: it waits on, there was none, a reset discards it with its result, or
it completes. -/
inductive PortMove (s : State) : State → Prop
  | kept {t : State} (h : t.commands = s.commands) : PortMove s t
  | accepted {t : State} (hp : t.pending = s.pending) (hn : s.command = none) : PortMove s t
  | reset {t : State} (hp : t.pending = s.pending) (hr : t.result = []) : PortMove s t
  | completed {k : Completion} (n : Nat) (hk : Answers s k) :
    PortMove s (k.state.finish n k.code k.data)

section
variable {s t : State}

theorem octet_eq_noBuffer {c : ResultCode} (h : c.octet = 0x1D) : c = .noBuffer := by
  cases c
  case noBuffer => rfl
  all_goals exact absurd h (by decide)

theorem Answers.pending {k : Completion} (h : Answers s k) : k.state.pending = s.pending := by
  cases h with
  | refused => rfl
  | noBuffer => rfl
  | carriedOut hp _ => exact hp

theorem PortMove.pending (h : PortMove s t) : t.pending = s.pending := by
  cases h with
  | kept h => exact congrArg Prod.fst h
  | accepted hp _ => exact hp
  | reset hp _ => exact hp
  | completed n hk => exact hk.pending

theorem PortMove.self (s : State) : PortMove s s := .kept rfl

/-- A completion with the code of a check changes the port alone, and buffer-wanted if it is NO BUFFER (R80, R173, R174). -/
theorem Answers.refusal {k : Completion} (h : Answers s k) (n : Nat) (hc : k.code.isCheck = true) :
    (k.code.octet ≠ 0x1D →
      k.state.finish n k.code k.data = s.answered (resultOctets n k.code k.data)) ∧
    (k.code.octet = 0x1D → k.state.finish n k.code k.data =
      { s.answered (resultOctets n k.code k.data) with bufferWanted := true }) ∧
    ∀ o ∈ (resultOctets n k.code k.data).tail, o = 0 := by
  have hzeros : ∀ c, ∀ o ∈ (resultOctets n c []).tail, o = 0 := fun c o ho => by
    rw [resultOctets_nil] at ho
    exact List.eq_of_mem_replicate ho
  cases h with
  | refused hne => exact ⟨fun _ => rfl, fun h => absurd (octet_eq_noBuffer h) hne, hzeros _⟩
  | noBuffer => exact ⟨fun h => absurd rfl h, fun _ => rfl, hzeros _⟩
  | carriedOut _ hno => exact absurd (hno.symm.trans hc) (by decide)

/-! #### Completions (R11, R171, R172) -/

theorem portMove_arguments (n : Nat) : PortMove s (s.finish n .arguments []) :=
  .completed n (k := refuse s .arguments) .refused

theorem portMove_complete (n : CommandName) (body : List Octet → State → Completion)
    (hb : ∀ args, Answers s (body args s)) : PortMove s (s.complete n body) := by
  obtain e | ⟨_, _, _, e⟩ | ⟨args, _, _, e⟩ := s.complete_cases n body
  · rw [e]; exact .self s
  · rw [e]; exact portMove_arguments _
  · rw [e]; exact .completed _ (hb args)

/-- A check before a command's further rule. -/
theorem Answers.check {p : Prop} [Decidable p] {c : ResultCode} {k : Completion} (hk : Answers s k)
    (hc : c ≠ .noBuffer := by decide) : Answers s (if p then refuse s c else k) := by
  split
  · exact .refused hc
  · exact hk

theorem answers_withSlot (o : Octet) (k : Slot → Completion) (h : ∀ i, Answers s (k i)) :
    Answers s (withSlot o s k) := by
  unfold withSlot
  split
  · exact h _
  · exact .refused

theorem portMove_completeModify (f : Octet) (rule : Slot → Octet → State → Completion)
    (hr : ∀ i v, Answers s (rule i v s)) : PortMove s (s.completeModify f rule) := by
  have hb : ∀ args, Answers s (modifyStation rule args s) := fun args => by
    refine answers_withSlot _ _ fun i => .check ?_
    split
    case h_1 | h_2 => exact .refused
    all_goals exact hr _ _
  unfold State.completeModify
  split
  · split
    · exact portMove_complete _ _ hb
    · exact .self s
  · exact .self s

/-! #### The Station Table (R10 to R26, R76) -/

theorem SlotFrame.commands (h : SlotFrame s t) : t.commands = s.commands := by
  obtain ⟨_, _, _, _, _, _, _, rfl⟩ := h; rfl

theorem SlotFrame.pending (h : SlotFrame s t) : t.pending = s.pending :=
  congrArg Prod.fst h.commands

theorem pending_appendUrgent (s : State) (i : Slot) : (s.appendUrgent i).pending = s.pending := by
  unfold State.appendUrgent
  split <;> rfl

theorem answers_admitStation (args : List Octet) : Answers s (admitStation args s) := by
  refine .check (.check ?_)
  split
  · exact .refused
  · exact .carriedOut (pending_appendUrgent _ _)

theorem answers_findStation (args : List Octet) : Answers s (findStation args s) := by
  simp only [findStation]
  split
  · split
    · exact .carriedOut
    · exact .refused
  · exact .refused

theorem answers_modifyAddress (i : Slot) (v : Octet) : Answers s (modifyAddress i v s) := by
  unfold modifyAddress
  split
  case h_5 | h_6 | h_7 => exact .check (.check .carriedOut)
  all_goals exact .refused

theorem answers_modifyGroup (i : Slot) (v : Octet) : Answers s (modifyGroup i v s) := by
  unfold modifyGroup
  split
  · exact .carriedOut
  · exact .refused

theorem answers_holdStation (args : List Octet) : Answers s (holdStation args s) := by
  refine answers_withSlot _ _ fun i => ?_
  split
  case h_4 => exact .carriedOut
  all_goals exact .refused

theorem answers_releaseStation (args : List Octet) : Answers s (releaseStation args s) := by
  refine answers_withSlot _ _ fun i => ?_
  split
  case h_4 | h_5 | h_7 => exact .carriedOut
  case h_6 => exact .carriedOut (pending_appendUrgent _ i)
  all_goals exact .refused

theorem pending_retire (s : State) (i : Slot) : (s.retire i).pending = s.pending := by
  unfold State.retire
  simp only
  rw [(slotFrame_testRetired _ i).pending]
  split
  · exact (slotFrame_freeText _ i).pending
  · rfl

theorem answers_retireStation (args : List Octet) : Answers s (retireStation args s) := by
  refine answers_withSlot _ _ fun i => ?_
  split
  case h_3 | h_4 => exact .carriedOut (pending_retire s i)
  all_goals exact .refused

theorem answers_syncStation (args : List Octet) : Answers s (syncStation args s) := by
  refine answers_withSlot _ _ fun i => ?_
  split
  case h_1 | h_2 | h_3 => exact .carriedOut
  all_goals exact .refused

theorem answers_tableReset (args : List Octet) : Answers s (tableReset args s) := by
  unfold tableReset
  split
  · exact .carriedOut
  · exact .refused

/-! #### The Poll Ring and the urgent list (R29 to R36) -/

theorem answers_ringInsert (args : List Octet) : Answers s (ringInsert args s) := by
  simp only [ringInsert]
  refine answers_withSlot _ _ fun i => ?_
  split
  case h_3 | h_4 => exact .check (.check (.check .carriedOut))
  all_goals exact .refused

theorem answers_ringRemove (args : List Octet) : Answers s (ringRemove args s) := by
  simp only [ringRemove]
  split
  · exact .refused
  · exact .carriedOut

theorem answers_ringRead (args : List Octet) : Answers s (ringRead args s) := by
  unfold ringRead
  split
  · exact .refused
  · exact .carriedOut

theorem answers_pollNow (args : List Octet) : Answers s (pollNow args s) := by
  refine answers_withSlot _ _ fun i => ?_
  split
  case h_4 => exact .check (.check .carriedOut)
  all_goals exact .refused

/-! #### The Text Store and the Attention Unit (R80 to R93, R100) -/

theorem answers_queueText (args : List Octet) : Answers s (queueText args s) := by
  refine answers_withSlot _ _ fun i => .check (.check (.check ?_))
  split
  · exact .noBuffer
  · exact .carriedOut

theorem answers_queueGroupText (args : List Octet) : Answers s (queueGroupText args s) := by
  refine .check (.check ?_)
  split
  · exact .noBuffer
  · exact .carriedOut

theorem pending_cancelFilled (s : State) (i : Slot) : (s.cancelFilled i).pending = s.pending := by
  have hfree := (slotFrame_freeText s i).pending
  unfold State.cancelFilled
  split
  · exact hfree
  · exact hfree

theorem answers_cancelText (args : List Octet) : Answers s (cancelText args s) := by
  refine answers_withSlot _ _ fun i => .check ?_
  split
  · exact .refused
  · split
    · exact .carriedOut
    · exact .carriedOut (pending_cancelFilled s i)

theorem answers_readInbound (args : List Octet) : Answers s (readInbound args s) := by
  unfold readInbound
  split
  · exact .refused
  · exact .carriedOut

theorem answers_releaseInbound (args : List Octet) : Answers s (releaseInbound args s) := by
  unfold releaseInbound
  split
  · exact .refused
  · exact .carriedOut (slotFrame_testRetired _ _).pending

theorem answers_nextAttention (args : List Octet) : Answers s (nextAttention args s) := by
  unfold nextAttention
  split
  · exact .refused
  · exact .carriedOut

/-! #### The engine's entries and the ends of an exchange (R52, R135, R142, R144) -/

theorem commands_enterGap (s : State) : s.enterGap.commands = s.commands := by
  unfold State.enterGap
  split <;> rfl

theorem commands_endTurn (s : State) : s.endTurn.commands = s.commands := by
  unfold State.endTurn
  split
  · rfl
  · exact commands_enterGap s

theorem commands_enterSettling (s : State) : s.enterSettling.commands = s.commands := by
  unfold State.enterSettling
  simp only
  split
  · rfl
  · exact commands_endTurn _

theorem commands_missExchange (s : State) : s.missExchange.commands = s.commands :=
  slotFrame_missExchange.commands

theorem commands_abandonExchange (s : State) : s.abandonExchange.commands = s.commands :=
  slotFrame_abandonExchange.commands

theorem commands_endContext (s : State) (x : Exchange) : (s.endContext x).commands = s.commands :=
  (slotFrame_endContext s x).commands

/-! #### The line commands and LINE TEST (R146 to R151) -/

theorem answers_startLine (args : List Octet) : Answers s (startLine args s) := by
  have hstart : s.startLine.pending = s.pending := congrArg Prod.fst (commands_enterGap s)
  unfold startLine
  split
  case h_1 | h_2 => exact .carriedOut hstart
  all_goals exact .refused

theorem pending_stopLine (s : State) : s.stopLine.pending = s.pending := by
  unfold State.stopLine
  split <;> rfl

theorem answers_abortLine (args : List Octet) : Answers s (abortLine args s) :=
  .carriedOut (congrArg Prod.fst (commands_abandonExchange s))

theorem portMove_lineTestEvent (s : State) : PortMove s s.lineTestEvent := by
  unfold State.lineTestEvent
  split
  · exact .self s
  · split
    · split
      · exact portMove_arguments 1
      · split
        · exact .completed 1 (k := refuse s .lineRunning) .refused
        · split
          · exact .completed 1 (k := refuse s .length) .refused
          · exact .kept rfl
    · exact .self s

/-- A test that ends completes LINE TEST with one of its three results (R151). -/
theorem portMove_endTest {c : ResultCode} (hc : c.isCheck = false) (hp : t.pending = s.pending) :
    PortMove s (t.endTest c) :=
  .completed 1 (k := answer (t.enterStopped false) c []) (.carriedOut hp hc)

theorem Verdict.result_isCheck (v : Verdict) : v.result.isCheck = false := by
  cases v <;> rfl

/-! #### CTS and DCD (R133, R137, R139, R141, R142) -/

theorem commands_noteLineChange (s : State) : s.noteLineChange.commands = s.commands := by
  rw [noteLineChange_eq]; rfl

theorem commands_ctsChanged (s : State) (a : Bool) : (s.ctsChanged a).commands = s.commands := by
  have hnoted := commands_noteLineChange { s with cts := a }
  unfold State.ctsChanged
  simp only
  split <;> exact hnoted

theorem commands_dcdChanged (s : State) (a : Bool) : (s.dcdChanged a).commands = s.commands := by
  have hnoted := commands_noteLineChange { s with dcd := a }
  unfold State.dcdChanged
  simp only
  split
  · exact hnoted
  · exact ((commands_enterSettling _).trans (commands_missExchange _)).trans hnoted
  · exact (commands_endTurn _).trans hnoted
  · exact hnoted

theorem commands_ctsLostEvent (s : State) : s.ctsLostEvent.commands = s.commands := by
  unfold State.ctsLostEvent
  split
  · exact commands_abandonExchange s
  · rfl

/-! #### The framer's points (R120, R138, R151) -/

theorem commands_lastCrcOctetSent (s : State) : s.lastCrcOctetSent.commands = s.commands := by
  unfold State.lastCrcOctetSent
  split
  · rfl
  · split <;> rfl

theorem commands_turnRound (s : State) (c : Context) : (s.turnRound c).commands = s.commands := by
  unfold State.turnRound
  split
  · next b _ =>
    obtain ⟨_, _, _, _, e⟩ := slotFrame_applySent (s := s) b
    rw [commands_endTurn, commands_endContext, e]; rfl
  all_goals rfl

theorem portMove_testSent (s : State) (l : LineTest) : PortMove s (s.testSent l) := by
  unfold State.testSent
  simp only
  split
  · exact portMove_endTest (Verdict.result_isCheck _) rfl
  · split <;> exact .kept rfl

theorem portMove_lastPadOctetEnded (s : State) : PortMove s s.lastPadOctetEnded := by
  unfold State.lastPadOctetEnded
  split
  · exact .self s
  · split
    · split
      · split
        · exact .self s
        · exact .kept (commands_turnRound s _)
      · exact portMove_testSent s _
      · exact .self s
    · exact .self s

/-! #### Timer expiries (R38, R135, R137, R140, R142, R151) -/

theorem commands_gapTimerExpiry (s : State) : s.gapTimerExpiry.commands = s.commands := by
  unfold State.gapTimerExpiry
  split <;> rfl

theorem commands_ctsTimerExpiry (s : State) : s.ctsTimerExpiry.commands = s.commands := by
  unfold State.ctsTimerExpiry
  split
  · exact commands_abandonExchange s
  · rfl

theorem portMove_replyTimerExpiry (s : State) : PortMove s s.replyTimerExpiry := by
  unfold State.replyTimerExpiry
  split
  · split
    case h_1 => exact .kept ((commands_endTurn _).trans (commands_missExchange s))
    case h_2 => exact portMove_endTest rfl rfl
    all_goals exact .self s
  · exact .self s

theorem commands_settleTimerExpiry (s : State) : s.settleTimerExpiry.commands = s.commands := by
  unfold State.settleTimerExpiry
  split <;> rfl

theorem commands_probeTimerExpiry (s : State) : s.probeTimerExpiry.commands = s.commands := by
  rw [probeTimerExpiry_frame]; rfl

/-! #### Selection and the receiver's events (R42, R123 to R127) -/

theorem Passes.commands (h : Passes s t) : t.commands = s.commands := by
  obtain ⟨_, _, _, _, _, rfl, _⟩ := h; rfl

theorem commands_select (s : State) : s.select.commands = s.commands := by
  have hpass : s.choose.state.commands = s.commands := choose_fits.1.commands
  obtain e | ⟨_, _, _, e⟩ | ⟨x, _, _, _, e⟩ := select_cases s
  · rw [e]
  · rw [e]; exact hpass
  · rw [e]; exact hpass

theorem commands_octetAlignmentTaken (s : State) (bits : List Bool) :
    (s.octetAlignmentTaken bits).commands = s.commands := by
  unfold State.octetAlignmentTaken
  split <;> rfl

theorem commands_alignmentGivenUp (s : State) (o : Octet) :
    (s.alignmentGivenUp o).commands = s.commands := by
  unfold State.alignmentGivenUp
  split <;> rfl

theorem commands_leadDetected (s : State) : s.leadDetected.commands = s.commands := by
  unfold State.leadDetected
  split <;> rfl

theorem commands_bodyOctetDecoded (s : State) (o : Octet) :
    (s.bodyOctetDecoded o).commands = s.commands := by
  unfold State.bodyOctetDecoded
  split
  · split <;> rfl
  · rfl

theorem commands_replyJudged {c : Context} (hc : s.context = some c) (j : Judgement) :
    (s.replyJudged c j).commands = s.commands := by
  unfold State.replyJudged
  rw [commands_enterSettling, commands_endContext]
  exact (slotFrame_applyJudgement c j hc).commands

theorem portMove_testJudged (s : State) (l : LineTest) (rx : Receiver) (j : Judgement) :
    PortMove s (s.testJudged l rx j) := by
  unfold State.testJudged
  simp only
  split
  · exact portMove_endTest (Verdict.result_isCheck _) rfl
  · exact .kept rfl

theorem portMove_blockJudged (s : State) (o : Octet) : PortMove s (s.blockJudged o) := by
  unfold State.blockJudged
  split
  · split
    · exact .self s
    · next rx j _ =>
      split
      · next hc => exact .kept (commands_replyJudged hc j)
      · exact portMove_testJudged s _ rx j
      · exact .self s
  · exact .self s

/-! #### The port's accesses (R166 to R173) -/

theorem portMove_portWrite (ht : PortMove s t) : PortMove s (s.portWrite t) := by
  unfold State.portWrite
  split
  · exact .self s
  · exact ht

theorem portMove_portReadStep (o : Octet) (ht : t.commands = s.commands) :
    PortMove s (s.portReadStep o t) := by
  unfold State.portReadStep
  split
  · exact .kept rfl
  · exact .kept ht

theorem portMove_acceptance (code : Octet) :
    PortMove s (if s.busy then { s with refused := true } else s.accept code) := by
  split
  · exact .kept rfl
  · next hb => exact .accepted rfl (Option.not_isSome_iff_eq_none.mp hb)

/-! #### Every command -/

theorem exec_total (c : Instr) (s : State) : ∃ t, exec c s = .next t := by
  cases c <;> exact ⟨_, rfl⟩

/-- Every event leaves the command in progress in one of the ways of `PortMove`. -/
theorem portMove_exec (c : Instr) (hx : exec c s = .next t) : PortMove s t := by
  cases c <;> cases hx
  case acceptance => exact portMove_portWrite (portMove_acceptance _)
  case argumentWrite => exact portMove_portWrite (by split <;> exact .kept rfl)
  case resultRead => exact portMove_portReadStep _ (by split <;> rfl)
  case unknownCommand =>
    split
    · split
      · exact .self s
      · exact .completed 1 (k := refuse s .unknownCommand) .refused
    · exact .self s
  case admitStation => exact portMove_complete _ _ answers_admitStation
  case findStation => exact portMove_complete _ _ answers_findStation
  case readStation =>
    exact portMove_complete _ _ fun _ => answers_withSlot _ _ fun _ => .carriedOut
  case modifyStationAddress => exact portMove_completeModify _ _ answers_modifyAddress
  case modifyStationGroup => exact portMove_completeModify _ _ answers_modifyGroup
  case modifyStationQuietLimit => exact portMove_completeModify _ _ fun _ _ => .carriedOut
  case modifyStationClearCounters => exact portMove_completeModify _ _ fun _ _ => .carriedOut
  case holdStation => exact portMove_complete _ _ answers_holdStation
  case releaseStation => exact portMove_complete _ _ answers_releaseStation
  case retireStation => exact portMove_complete _ _ answers_retireStation
  case syncStation => exact portMove_complete _ _ answers_syncStation
  case tableReset => exact portMove_complete _ _ answers_tableReset
  case ringInsert => exact portMove_complete _ _ answers_ringInsert
  case ringRemove => exact portMove_complete _ _ answers_ringRemove
  case ringRead => exact portMove_complete _ _ answers_ringRead
  case ringStatus => exact portMove_complete _ _ fun _ => .carriedOut
  case pollNow => exact portMove_complete _ _ answers_pollNow
  case queueText => exact portMove_complete _ _ answers_queueText
  case queueGroupText => exact portMove_complete _ _ answers_queueGroupText
  case cancelText => exact portMove_complete _ _ answers_cancelText
  case clearStaging => exact portMove_complete _ _ fun _ => .carriedOut
  case readInbound => exact portMove_complete _ _ answers_readInbound
  case releaseInbound => exact portMove_complete _ _ answers_releaseInbound
  case bufferStatus => exact portMove_complete _ _ fun _ => .carriedOut
  case nextAttention => exact portMove_complete _ _ answers_nextAttention
  case startLine => exact portMove_complete _ _ answers_startLine
  case stopLine => exact portMove_complete _ _ fun _ => .carriedOut (pending_stopLine s)
  case abortLine => exact portMove_complete _ _ answers_abortLine
  case lineTest => exact portMove_lineTestEvent s
  case stagingTextWrite => exact portMove_portWrite (by split <;> exact .kept rfl)
  case inboundTextRead => exact portMove_portReadStep _ rfl
  case causeClearWrite => exact portMove_portWrite (.kept rfl)
  case maskWrite => exact portMove_portWrite (.kept rfl)
  case parameterIndexWrite => exact portMove_portWrite (.kept rfl)
  case parameterDataRead => exact portMove_portReadStep _ rfl
  case parameterDataWrite => exact portMove_portWrite (by split <;> exact .kept rfl)
  case lineStatusRead => exact portMove_portReadStep _ rfl
  case lineStatusPortWrite => exact .self s
  case masterReset => exact .reset rfl rfl
  case rstReleased => exact .kept rfl
  case ctsChange a =>
    split
    · exact .self s
    · exact .kept (commands_ctsChanged s a)
  case dcdChange a =>
    split
    · exact .self s
    · exact .kept (commands_dcdChanged s a)
  case ctsLost => exact .kept (commands_ctsLostEvent s)
  case selection => exact .kept (commands_select s)
  case lastCrcOctetSent => exact .kept (commands_lastCrcOctetSent s)
  case lastPadOctetEnded => exact portMove_lastPadOctetEnded s
  case leadDetected => exact .kept (commands_leadDetected s)
  case blockJudged o => exact portMove_blockJudged s o
  case gapTimerExpiry => exact .kept (commands_gapTimerExpiry s)
  case ctsTimerExpiry => exact .kept (commands_ctsTimerExpiry s)
  case replyTimerExpiry => exact portMove_replyTimerExpiry s
  case settleTimerExpiry => exact .kept (commands_settleTimerExpiry s)
  case probeTimerExpiry => exact .kept (commands_probeTimerExpiry s)
  case octetAlignmentTaken bits => exact .kept (commands_octetAlignmentTaken s bits)
  case alignmentGivenUp o => exact .kept (commands_alignmentGivenUp s o)
  case bodyOctetDecoded o => exact .kept (commands_bodyOctetDecoded s o)

end

/-- Settles O17: an event that ends a command with the code of a check is a completion that a check has stopped. -/
theorem refusedCommandsChangeNothing : Obligations.RefusedCommandsChangeNothing := by
  unfold Obligations.RefusedCommandsChangeNothing
  intro c s t k hx hs ht hk hlo hhi
  cases portMove_exec c hx with
  | kept h =>
    have hkept : t.command = s.command := congrArg Prod.snd h
    rw [← hkept, ht] at hs
    cases hs
  | accepted _ hn => rw [hn] at hs; cases hs
  | reset _ hr => rw [hr] at hk; cases hk
  | completed n hans =>
    obtain rfl : _ = k := Option.some.inj hk
    exact hans.refusal n (by simp [ResultCode.isCheck, hlo, hhi])

/-- Settles O2: no arm of `exec` faults or refuses, and the port is all that an event may write of the commands. -/
theorem everyCommandIsTaken : Obligations.EveryCommandIsTaken := by
  intro c s
  obtain ⟨t, ht⟩ := exec_total c s
  exact ⟨t, ht, (portMove_exec c ht).pending⟩

end Sys2Proof.Machine
end

section
namespace Sys2Proof.Machine

-- One theorem after the other: checked all at once, these start more threads than the memory limit
-- allows.
set_option Elab.async false

/-! ### RST# low (R176, R177) -/

/-- What a 614 that holds its reset values gives an event to act on: an engine in STOPPED and at rest, and no command in
progress. -/
structure State.Dormant (s : State) : Prop extends s.AtRest where
  engine : s.engine = .stopped
  command : s.command = none

section
variable {s t : State} {c : Instr}

theorem dormant_heldInReset (s : State) : s.heldInReset.Dormant :=
  ⟨lineWf_heldInReset.1.atRest (.inl rfl), rfl, rfl⟩

theorem State.ResetWf.dormant (h : s.ResetWf) (hr : s.rstLow = true) : s.Dormant := by
  rw [h hr]
  exact dormant_heldInReset s

/-! #### Completions and port accesses -/

theorem State.Dormant.complete (h : s.Dormant) (n : CommandName)
    (body : List Octet → State → Completion) : s.complete n body = s :=
  s.complete_of_other n body fun k hk => by rw [h.command] at hk; cases hk

theorem State.Dormant.completeModify (h : s.Dormant) (f : Octet)
    (rule : Slot → Octet → State → Completion) : s.completeModify f rule = s := by
  simp only [State.completeModify, h.command]

theorem State.Dormant.lineTestEvent (h : s.Dormant) : s.lineTestEvent = s := by
  simp only [State.lineTestEvent, h.command]

theorem portWrite_of_low (hr : s.rstLow = true) : s.portWrite t = s := if_pos hr

theorem portReadStep_of_low (hr : s.rstLow = true) (o : Octet) :
    s.portReadStep o t = { s with dataOut := 0 } := if_pos hr

/-! #### The line's events (R130, R133, R144) -/

theorem State.Dormant.ctsChanged (h : s.Dormant) (a : Bool) :
    s.ctsChanged a = { s with cts := a } := by
  simp [State.ctsChanged, State.noteLineChange, h.engine]

theorem State.Dormant.dcdChanged (h : s.Dormant) (a : Bool) :
    s.dcdChanged a = { s with dcd := a } := by
  simp [State.dcdChanged, State.noteLineChange, h.engine]

theorem State.Dormant.ctsLostEvent (h : s.Dormant) : s.ctsLostEvent = s := by
  simp [State.ctsLostEvent, h.engine]

theorem State.Dormant.select (h : s.Dormant) : s.select = s :=
  s.select_of_not (by simp [h.engine])

theorem State.Dormant.lastCrcOctetSent (h : s.Dormant) : s.lastCrcOctetSent = s := by
  simp only [State.lastCrcOctetSent, h.framer]

theorem State.Dormant.lastPadOctetEnded (h : s.Dormant) : s.lastPadOctetEnded = s := by
  simp only [State.lastPadOctetEnded, h.framer]

theorem State.Dormant.gapTimerExpiry (h : s.Dormant) : s.gapTimerExpiry = s := by
  simp [State.gapTimerExpiry, h.engine]

theorem State.Dormant.ctsTimerExpiry (h : s.Dormant) : s.ctsTimerExpiry = s := by
  simp [State.ctsTimerExpiry, h.engine]

theorem State.Dormant.replyTimerExpiry (h : s.Dormant) : s.replyTimerExpiry = s := by
  simp [State.replyTimerExpiry, h.replyTimer]

theorem State.Dormant.settleTimerExpiry (h : s.Dormant) : s.settleTimerExpiry = s := by
  simp [State.settleTimerExpiry, h.engine]

theorem State.Dormant.probeTimerExpiry (h : s.Dormant) : s.probeTimerExpiry = s := by
  simp [State.probeTimerExpiry, h.probeTimer]

theorem State.Dormant.hunts (h : s.Dormant) : s.hunts = false := by
  simp [State.hunts, h.engine]

theorem State.Dormant.takesBody (h : s.Dormant) : s.takesBody = false := by
  simp [State.takesBody, h.engine]

theorem State.Dormant.octetAlignmentTaken (h : s.Dormant) (bits : List Bool) :
    s.octetAlignmentTaken bits = s := by
  simp [State.octetAlignmentTaken, h.hunts]

theorem State.Dormant.alignmentGivenUp (h : s.Dormant) (o : Octet) : s.alignmentGivenUp o = s := by
  simp [State.alignmentGivenUp, h.hunts]

theorem State.Dormant.leadDetected (h : s.Dormant) : s.leadDetected = s := by
  simp [State.leadDetected, h.hunts]

theorem State.Dormant.bodyOctetDecoded (h : s.Dormant) (o : Octet) : s.bodyOctetDecoded o = s := by
  simp [State.bodyOctetDecoded, h.takesBody]

theorem State.Dormant.blockJudged (h : s.Dormant) (o : Octet) : s.blockJudged o = s := by
  simp [State.blockJudged, h.takesBody]

/-! #### Every command -/

/-- `t` differs from `s` in the modem levels and the data bus alone. -/
def SameBlocks (s t : State) : Prop :=
  ∃ (cts dcd : Bool) (o : Octet), t = { s with cts := cts, dcd := dcd, dataOut := o }

theorem SameBlocks.refl (s : State) : SameBlocks s s := ⟨_, _, _, rfl⟩

theorem SameBlocks.of_eq (h : t = s) : SameBlocks s t := h ▸ .refl s

theorem sameBlocks_portWrite (hr : s.rstLow = true) : SameBlocks s (s.portWrite t) :=
  .of_eq (portWrite_of_low hr)

theorem sameBlocks_portReadStep (hr : s.rstLow = true) (o : Octet) :
    SameBlocks s (s.portReadStep o t) := ⟨_, _, _, portReadStep_of_low hr o⟩

/-- While RST# is low no event but its release reaches a block (R176). -/
theorem sameBlocks_exec (hr : s.rstLow = true) (hw : s.ResetWf) (hc : c ≠ .rstReleased)
    (hx : exec c s = .next t) : SameBlocks s t := by
  have hd : s.Dormant := hw.dormant hr
  have hcomplete : ∀ (n : CommandName) (body : List Octet → State → Completion),
      SameBlocks s (s.complete n body) := fun n body => .of_eq (hd.complete n body)
  cases c <;> cases hx
  case acceptance | argumentWrite | stagingTextWrite | causeClearWrite | maskWrite |
      parameterIndexWrite | parameterDataWrite => exact sameBlocks_portWrite hr
  case resultRead | inboundTextRead | parameterDataRead | lineStatusRead =>
    exact sameBlocks_portReadStep hr _
  case lineStatusPortWrite => exact .refl s
  case unknownCommand => rw [hd.command]; exact .refl s
  case modifyStationAddress | modifyStationGroup | modifyStationQuietLimit |
      modifyStationClearCounters => exact .of_eq (hd.completeModify _ _)
  case lineTest => exact .of_eq hd.lineTestEvent
  case masterReset => exact .of_eq (hw hr).symm
  case rstReleased => exact absurd rfl hc
  case ctsChange a =>
    split
    · exact .refl s
    · exact ⟨_, _, _, hd.ctsChanged a⟩
  case dcdChange a =>
    split
    · exact .refl s
    · exact ⟨_, _, _, hd.dcdChanged a⟩
  case ctsLost => exact .of_eq hd.ctsLostEvent
  case selection => exact .of_eq hd.select
  case lastCrcOctetSent => exact .of_eq hd.lastCrcOctetSent
  case lastPadOctetEnded => exact .of_eq hd.lastPadOctetEnded
  case leadDetected => exact .of_eq hd.leadDetected
  case blockJudged o => exact .of_eq (hd.blockJudged o)
  case gapTimerExpiry => exact .of_eq hd.gapTimerExpiry
  case ctsTimerExpiry => exact .of_eq hd.ctsTimerExpiry
  case replyTimerExpiry => exact .of_eq hd.replyTimerExpiry
  case settleTimerExpiry => exact .of_eq hd.settleTimerExpiry
  case probeTimerExpiry => exact .of_eq hd.probeTimerExpiry
  case octetAlignmentTaken bits => exact .of_eq (hd.octetAlignmentTaken bits)
  case alignmentGivenUp o => exact .of_eq (hd.alignmentGivenUp o)
  case bodyOctetDecoded o => exact .of_eq (hd.bodyOctetDecoded o)
  all_goals exact hcomplete _ _

/-! #### The pins and ports -/

theorem portRead_of_low (hr : s.rstLow = true) (a : PortAddress) : s.portRead a = 0 := if_pos hr

/-- With every MASK bit 0 INT# is released (R109). -/
theorem intAsserted_of_mask_zero (h : s.mask = 0) : s.intAsserted = false := by
  have hm : s.maskOctet = 0 := by rw [State.maskOctet, h]; rfl
  simp [State.intAsserted, hm]

end

/-- Settles O6: the two pin events are written out, and between them the reset values leave no event anything to act on. -/
theorem masterResetHoldsEveryBlock : Obligations.MasterResetHoldsEveryBlock := by
  refine ⟨fun _ => rfl, fun c s hr hw hc => ?_, fun s hr hw => ⟨portRead_of_low hr, ?_⟩, fun _ => rfl⟩
  · obtain ⟨t, hx⟩ := exec_total c s
    obtain ⟨cts, dcd, o, rfl⟩ := sameBlocks_exec hr hw hc hx
    exact ⟨cts, dcd, o, hx⟩
  · exact intAsserted_of_mask_zero (by rw [hw hr]; rfl)

end Sys2Proof.Machine
end

section
namespace Sys2Proof.Machine

/-! ### Acceptance (R169) -/

/-- Settles O21: with BUSY clear and RST# high a COMMAND write is an acceptance, whatever its code. -/
theorem acceptanceCopiesTheArguments : Obligations.AcceptanceCopiesTheArguments := by
  intro s code hr hn
  have hbusy : s.busy = false := by rw [State.busy, hn]; rfl
  rw [exec_of_portWrite hr rfl, hbusy]
  rfl

end Sys2Proof.Machine
end
